-- ==== Sys2Proof/Word.lean ====
section
/-! DEFINITION. The word types of the governor's link, objects and counters, and saturating addition. -/

namespace Sys2Proof

/-- One byte of a management frame (R162). -/
abbrev Byte := BitVec 8

/-- One data beat, 32 bytes (00_scope.md 5.2, section 11.6). -/
abbrev Beat := BitVec 256

/-- A requester identity; rules and triggers compare it bit by bit (R24). -/
abbrev Requester := BitVec 8

/-- An upstream tag, 0 to 255 (R2). -/
abbrev UpTag := BitVec 8

/-- A downstream tag, 0 to 127: the index of its In-Flight Table entry (R97). -/
abbrev DownTag := Fin 128

/-- A 40-bit byte address (R2). -/
abbrev Address := BitVec 40

/-- A Timebase value (R59). -/
abbrev Time := BitVec 32

/-- A lane, 0 to 15 (R34). -/
abbrev LaneId := Fin 16

/-- A Rule Table index, 0 to 31 (R20). -/
abbrev RuleId := Fin 32

/-- A period generator, PG0 to PG3 (R61). -/
abbrev Gen := Fin 4

/-- A capture trigger, T0 to T7 (R116). -/
abbrev TriggerId := Fin 8

/-- `a + b`, staying at `top` once it gets there (00_scope.md 5.2). -/
def satAdd (top a b : Nat) : Nat := min top (a + b)

end Sys2Proof
end

