-- ==== Sys2Proof/Config.lean ====
section
/-! DEFINITION. What the part fixes: capacities, limits of the number ranges, identity codes; and the strap
levels that `State.reset` stands for. The spec leaves no result open, so no free value stands here. -/

namespace Sys2Proof.Config

/-- Hold Queue slots (R12, R76). -/
def holdCapacity : Nat := 48
/-- Write Data Store beats (R12, R76). -/
def storeCapacity : Nat := 256
/-- Local Response Queue slots (R12, R15). -/
def localCapacity : Nat := 16
/-- Capture Log records (R122). -/
def logCapacity : Nat := 64
/-- Payload buffer bytes of the Management Port (R163). -/
def bufferCapacity : Nat := 56

/-- The longest data of a request record, in beats (R3, R5). -/
def maxBeats : Nat := 16
/-- The smallest and the largest budget of a lane (R34). -/
def minBudget : Nat := 16
/-- The largest budget, which is also the reset budget (R34). -/
def maxBudget : Nat := 16777215
/-- The largest page number (R20). -/
def maxPage : Nat := 268435455
/-- The largest concurrency limit that is a number (R34). -/
def maxConcurrency : Nat := 128
/-- The longest period of a generator, in ticks (R61). -/
def maxPeriod : Nat := 1000000
/-- The debt floor of a METERED lane (R36). -/
def debtFloor : Int := -15

/-- The top of the 32-bit saturating counters (R37, R38). -/
def top32 : Nat := 4294967295
/-- The top of the 16-bit saturating counters (R130, R141). -/
def top16 : Nat := 65535

/-- Vendor code 0B57h (R173). -/
def vendorCode : Nat := 0x0B57
/-- Part number 7210 (R173). -/
def partNumber : Nat := 7210
/-- Revision number 1, for the parts the manual describes (R173). -/
def revision : Nat := 1

/-- DESIGN CHOICE (log 1), unsafe: the CHSEL straps sampled at the reset that `State.reset` follows. -/
def channelAtReset : Fin 8 := 0
/-- DESIGN CHOICE (log 1), unsafe: the START straps sampled at the reset that `State.reset` follows (00, BYPASS). -/
def startAtReset : Fin 4 := 0
/-- DESIGN CHOICE (log 1), unsafe: the UNMATCHED strap sampled at the reset that `State.reset` follows (0, FORWARD). -/
def unmatchedAtReset : Bool := false

end Sys2Proof.Config
end

