-- ==== Sys2Proof/Syntax.lean ====
section
/-! DEFINITION. The commands: what the governor's partners offer it, and one constructor of `Instr` for each row
of spec/opcode_table.json. -/

namespace Sys2Proof

/-- One beat as it travels on the link: its 32 bytes and its last-beat mark (R2, section 11.6). -/
structure LinkBeat where
  data : Beat
  last : Bool
deriving DecidableEq, Repr

/-- A request record as the requester side offers it, with the link's own codes: nothing says yet that it is
well formed (R2, R5, section 11.6). `beats` are the record's data beats (R3). -/
structure Request where
  requester : Requester
  tag : UpTag
  kind : BitVec 2
  address : Address
  length : BitVec 5
  beats : List LinkBeat
deriving DecidableEq, Repr

/-- What a memory response says: OKAY with the beats up to its marked last one (none for a WRITE), or
MEMORY_ERROR, which carries no data (R4; log 18). -/
inductive MemAnswer where
  | okay (data : List Beat)
  | memoryError
deriving DecidableEq, Repr

/-- A response on the downstream response channel (R4). -/
structure MemResponse where
  tag : DownTag
  answer : MemAnswer
deriving DecidableEq, Repr

/-- The levels of the strap pins (R148): `unmatched` is true for 1 (REFUSE). -/
structure Straps where
  channel : Fin 8
  start : Fin 4
  unmatched : Bool
deriving DecidableEq, Repr

/-- The direction bit of byte 0 of a frame (section 11.2). -/
inductive Direction where
  | read | write
deriving DecidableEq, Repr

/-- The sixteen object classes (sections 10.6 and 11.2). -/
inductive ObjectClass where
  | identity | mode | limits | rule | laneStaged | laneLive | period | commit
  | trigger | log | events | masks | fault | timebase | hold | tags
deriving DecidableEq, Repr

/-- The classes that serve no write (R170). -/
inductive UnservedClass where
  | identity | timebase | log | hold | tags
deriving DecidableEq, Repr

/-- The object class an `UnservedClass` is. -/
def UnservedClass.toClass : UnservedClass → ObjectClass
  | .identity => .identity
  | .timebase => .timebase
  | .log => .log
  | .hold => .hold
  | .tags => .tags

/-- What the controller sends in one frame, but for the direction and the class, which the command's row gives
(R163): the channel of byte 0, the index byte, the payload, whose length byte 2 carries, and the check byte. -/
structure Frame where
  channel : Fin 8
  index : Byte
  payload : List Byte
  check : Byte
deriving DecidableEq, Repr

/-- Where chip-select rises in a frame cut short (R169). `inFrame bits`: in a new frame, after these bits have
been clocked in, before the check byte completes. `inReply clocks`: in the reply of the frame last taken, after
so many further clocks. -/
inductive Cut where
  | inFrame (bits : List Bool)
  | inReply (clocks : Nat)
deriving DecidableEq, Repr

/-- The commands, one constructor for each row of spec/opcode_table.json (LAWS.json maps each to its mnemonic).
A Hold Queue entry is named by its position, 0 the oldest (R96); an In-Flight Table entry by its downstream tag. -/
inductive Instr where
  | requestTaken (r : Request)
  | strayBeatDiscard (b : LinkBeat)
  | releaseScan
  | downstreamRequestTaken
  | refusalPendingQueued
  | holdAged (n : Fin 48)
  | holdExpiryForce (n : Fin 48)
  | holdExpiryRefuse (n : Fin 48)
  | responseDeadline (t : DownTag)
  | responseTimeout (t : DownTag)
  | responseRelay (m : MemResponse)
  | localResponseSent
  | upstreamResponseTaken
  | orphanReturn (m : MemResponse)
  | unknownResponse (m : MemResponse)
  | timebaseTick
  | periodGeneratorExpiry (g : Gen)
  | quiesceForced
  | powerOnReset
  | pinReset
  | resetEnd (p : Straps)
  | modeBypass (f : Frame)
  | modeMonitor (f : Frame)
  | modeGovern (f : Frame)
  | quiesce (f : Frame)
  | resume (f : Frame)
  | restart (f : Frame)
  | limitsWrite (f : Frame)
  | ruleWrite (f : Frame)
  | laneStagedWrite (f : Frame)
  | laneLiveWrite (f : Frame)
  | periodWrite (f : Frame)
  | commit (f : Frame)
  | cancel (f : Frame)
  | triggerWrite (f : Frame)
  | logRead (f : Frame)
  | clear (f : Frame)
  | masksWrite (f : Frame)
  | clearFault (f : Frame)
  | clearCounters (f : Frame)
  | unservedWrite (c : UnservedClass) (f : Frame)
  | frameCutShort (c : Cut)
  | badCheck (d : Direction) (c : ObjectClass) (f : Frame)
deriving DecidableEq, Repr

end Sys2Proof
end

