-- ==== Sys2Proof/Machine/State.lean ====
section
/-! DEFINITION. The state of the governor, block by block (00_scope.md section 3), and its value after reset. -/

namespace Sys2Proof.Machine

/-! ## Named values -/

/-- The kinds a well-formed request has (R2). -/
inductive Kind where
  | read | write | fetch
deriving DecidableEq, Repr

/-- The statuses of the upstream response channel (R14, section 11.4). -/
inductive Status where
  | okay | memoryError | refusedScreen | refusedRate | refusedFull | refusedProtocol
  | expired | timedOut | withdrawn
deriving DecidableEq, Repr

/-- The operating modes, which are also the resume modes (R147). -/
inductive Mode where
  | bypass | monitor | govern
deriving DecidableEq, Repr

/-- The state of the Mode Controller (R147): an operating mode, or one of the three transitional states. -/
inductive ModeState where
  | operating (m : Mode)
  | quiescing
  | quiesced
  | restarting
deriving DecidableEq, Repr

/-- Which reset (R149). -/
inductive ResetCause where
  | powerOn | pin
deriving DecidableEq, Repr

/-- Whether a reset lasts (R19, R149, R150): `running` when none does. -/
inductive Phase where
  | running
  | inReset (c : ResetCause)
deriving DecidableEq, Repr

/-- The two sources of the upstream response channel, and the values of the turn (R18). -/
inductive Source where
  | memorySide | localSide
deriving DecidableEq, Repr

/-- What a Rule Table entry gives a matching request (R20). -/
inductive Action where
  | forward | govern | refuse
deriving DecidableEq, Repr

/-- A lane's kind (R35). -/
inductive LaneKind where
  | metered | openLane | closed
deriving DecidableEq, Repr

/-- A lane's exhaustion policy (R34). -/
inductive Policy where
  | hold | refuse | mark
deriving DecidableEq, Repr

/-- The first reason an entry was held (R79). -/
inductive Cause where
  | budget | concurrency | order | tags
deriving DecidableEq, Repr

/-- The status of a refusal pending entry (R93). -/
inductive HoldRefusal where
  | rate | expired | withdrawn
deriving DecidableEq, Repr

/-- A capture trigger's mode (R116). -/
inductive TriggerMode where
  | once | every | firstInPeriod
deriving DecidableEq, Repr

/-- The expiry action of the Hold Queue (R89). -/
inductive ExpiryAction where
  | force | refuse
deriving DecidableEq, Repr

/-- The full action of the Hold Queue (R89). -/
inductive FullAction where
  | stall | refuse
deriving DecidableEq, Repr

/-- The log policy (R127). -/
inductive LogPolicy where
  | stop | wrap
deriving DecidableEq, Repr

/-- The thirteen event flags (section 8.1). -/
inductive Flag where
  | watermark | exhausted | holdAged | holdExpired | responseTimeout | orphanReturn | tagsLow
  | logLevel | logLost | commitDone | quiesceDone | restartDone | fault
deriving DecidableEq, Repr

/-- The eight fault kinds (section 8.4). -/
inductive FaultKind where
  | malformed | tagClash | unknownResponse | responseTimeout | holdExpired | holdOverflow
  | quiesceForced | frameCheck
deriving DecidableEq, Repr

/-- The states of the Management Port (R165). -/
inductive PortState where
  | idle | header | payload | check | reply
deriving DecidableEq, Repr

/-! ## Tables -/

/-- The window, requester and kinds that a Rule Table entry and a capture trigger both match (R24, R118).
Bit n of `kinds` stands for the kind of code n (section 11.3). -/
structure Pattern where
  base : Nat
  limit : Nat
  value : Requester
  mask : Requester
  kinds : BitVec 3
deriving DecidableEq, Repr

/-- A Rule Table entry (R20). -/
structure RuleEntry where
  enabled : Bool
  pattern : Pattern
  action : Action
  lane : LaneId
  logRefusals : Bool
deriving DecidableEq, Repr

/-- A lane's configured record; `watermark` none is OFF and `concurrency` none is UNLIMITED (R34). -/
structure LaneConfig where
  kind : LaneKind
  budget : Nat
  watermark : Option Nat
  concurrency : Option Nat
  policy : Policy
  gen : Gen
  summary : Bool
deriving DecidableEq, Repr

/-- A lane: its live and staged records, its period state (R37) and its statistics (R38). -/
structure Lane where
  live : LaneConfig
  staged : LaneConfig
  balance : Int
  consumed : Nat
  overrun : Nat
  watermarkReached : Bool
  exhausted : Bool
  liveCount : Nat
  lastConsumed : Nat
  totalForwarded : BitVec 48
  totalHolds : Nat
  totalRefusals : Nat
  totalOverrun : Nat
deriving DecidableEq, Repr

/-- A period generator (R61). `expiring` is the model's own: this tick is the one at which the generator expires,
and its expiry has not come yet (R62; log 5). -/
structure Generator where
  livePeriod : Nat
  stagedPeriod : Nat
  remaining : Nat
  expiries : BitVec 16
  commitPending : Bool
  expiring : Bool
deriving DecidableEq, Repr

/-- A well-formed request with the lane and rule index its classification gave it (R2, R33). `data` is a WRITE's
beats and empty for READ and FETCH. -/
structure Passage where
  requester : Requester
  tag : UpTag
  kind : Kind
  address : Address
  length : Nat
  data : List Beat
  lane : Option LaneId
  rule : Option RuleId
deriving DecidableEq, Repr

/-- A held entry (R77). `waited` is the model's own: the ticks since the entry was taken, saturating (R92, R181;
log 14). -/
structure HoldEntry where
  req : Passage
  cause : Cause
  takenAt : Time
  holdLimit : Nat
  remaining : Nat
  aged : Bool
  forced : Bool
  refusal : Option HoldRefusal
  waited : Nat
deriving DecidableEq, Repr

/-- The fields of a LIVE or ORPHANED In-Flight Table entry (R98). -/
structure Flight where
  tag : UpTag
  requester : Requester
  kind : Kind
  address : Address
  length : Nat
  lane : Option LaneId
  rule : Option RuleId
  forwardedAt : Time
  remaining : Option Nat
  timeoutPending : Bool
deriving DecidableEq, Repr

/-- An In-Flight Table entry (R97). -/
inductive TagEntry where
  | free
  | live (f : Flight)
  | orphaned (f : Flight)
deriving DecidableEq, Repr

/-- A capture trigger (R116). -/
structure Trigger where
  enabled : Bool
  mode : TriggerMode
  gen : Gen
  pattern : Pattern
  armed : Bool
deriving DecidableEq, Repr

/-! ## The Capture Log (chapter 7) -/

/-- The request fields of a record, with the kind and length codes as carried (R123, R182). -/
structure RecordRequest where
  requester : Requester
  tag : UpTag
  kind : BitVec 2
  address : Address
  length : BitVec 5
deriving DecidableEq, Repr

/-- The disposition a record shows (R119, R126, section 11.5). -/
inductive Shown where
  | forwarded
  | forwardedMark
  | forwardedScreenMark
  | held (c : Cause)
  | refused (st : Status)
deriving DecidableEq, Repr

/-- Where a refusal was decided (R125). -/
inductive RefusalPoint where
  | taking | release
deriving DecidableEq, Repr

/-- The status a HOLD_EXPIRY record shows (R91, R92). -/
inductive ExpirySent where
  | forced | expired
deriving DecidableEq, Repr

/-- What a record carries beside its sequence number and timestamp, source by source (R123). -/
inductive RecordBody where
  | trigger (r : RecordRequest) (lane : Option LaneId) (rule : Option RuleId) (set : BitVec 8) (shown : Shown)
  | refusal (r : RecordRequest) (lane : Option LaneId) (rule : Option RuleId) (st : Status) (point : RefusalPoint)
  | screenMark (r : RecordRequest) (rule : Option RuleId) (shown : Shown)
  | holdExpiry (r : RecordRequest) (lane : Option LaneId) (rule : Option RuleId) (sent : ExpirySent) (cause : Cause) (wait : Nat)
  | timeout (r : RecordRequest) (lane : Option LaneId) (rule : Option RuleId) (tag : DownTag)
  | orphan (r : RecordRequest) (lane : Option LaneId) (rule : Option RuleId) (tag : DownTag)
  | periodSummary (lane : LaneId) (gen : Gen) (consumed : Nat) (balance : Int) (overrun : Nat)
deriving DecidableEq, Repr

/-- A capture record (R123). -/
structure CaptureRecord where
  seq : BitVec 16
  timestamp : Time
  body : RecordBody
deriving DecidableEq, Repr

/-- The Capture Log: its records, oldest first, the next sequence number and the lost count (R122, R130). -/
structure CaptureLog where
  records : List CaptureRecord
  next : BitVec 16
  lost : Nat
deriving DecidableEq, Repr

/-! ## The Event Unit (chapter 8) -/

/-- One event flag with its raise count and its mask, `enabled` or masked (R133). -/
structure EventFlag where
  set : Bool
  raises : BitVec 8
  enabled : Bool
deriving DecidableEq, Repr

/-- The thirteen flags, in code order, and the three sets (R133). -/
structure Events where
  flags : Vector EventFlag 13
  watermarkLanes : BitVec 16
  exhaustedLanes : BitVec 16
  commitGens : BitVec 4
deriving DecidableEq, Repr

/-- The optional fields of a Fault Record (R144); `codes` are the kind and length codes. -/
structure FaultDetails where
  requester : Option Requester
  tag : Option UpTag
  downTag : Option DownTag
  address : Option Address
  lane : Option LaneId
  codes : Option (BitVec 2 × BitVec 5)
deriving DecidableEq, Repr

/-- The fault the Fault Record holds (R143, R144). -/
structure FaultRecord where
  kind : FaultKind
  timestamp : Time
  details : FaultDetails
deriving DecidableEq, Repr

/-- The Fault Record, none when it is empty, and the eight counters in fault-kind order (R141, R143). -/
structure Faults where
  record : Option FaultRecord
  counts : Vector Nat 8
deriving DecidableEq, Repr

/-! ## Settings, channels and the port -/

/-- The nine global settings (R174); `responseLimit` none is OFF. -/
structure Limits where
  holdLimit : Nat
  expiryAction : ExpiryAction
  responseLimit : Option Nat
  quiesceLimit : Nat
  fullAction : FullAction
  logPolicy : LogPolicy
  logThreshold : Nat
  logRefusals : Bool
  orphanAlarm : Nat
deriving DecidableEq, Repr

/-- The record on offer on the downstream request channel (R2). -/
structure DownRequest where
  requester : Requester
  tag : DownTag
  kind : Kind
  address : Address
  length : Nat
  data : List Beat
deriving DecidableEq, Repr

/-- A local response waiting for the upstream response channel (R15). -/
structure LocalResponse where
  tag : UpTag
  status : Status
deriving DecidableEq, Repr

/-- The response on offer on the upstream response channel, and the source the Response Merger granted (R4, R18). -/
structure UpResponse where
  tag : UpTag
  status : Status
  data : List Beat
  source : Source
deriving DecidableEq, Repr

/-- The Management Port (R163 to R165): its state, the header bytes received, the payload bytes still to come, the
payload bytes kept, the running check, and the reply bytes not yet shifted out. -/
structure Port where
  state : PortState
  header : List Byte
  expect : Nat
  buffer : List Byte
  check : Byte
  reply : List Byte
deriving DecidableEq, Repr

/-! ## Why a step may stop -/

/-- The reasons a step of this machine can stop with a fault: there are none. Every fault of the spec is counted in
the state and stops nothing (R141), and an event whose condition does not hold leaves the state as it is (log 2). -/
inductive Fault where
deriving DecidableEq, Repr

/-- The reasons a command can be refused. -/
inductive Refusal where
  /-- Raised by an arm of `exec` whose row has no meaning yet; safe. No arm of this model raises it. -/
  | notModelled (mnemonic : String)
deriving DecidableEq, Repr

/-! ## The state -/

/-- The governor. Each field's rule stands in INVENTORY.md under '## State'. -/
structure State where
  phase : Phase
  timebase : Time
  -- the memory path
  offered : Option Request
  downRequest : Option DownRequest
  downResponse : Option MemResponse
  upResponse : Option UpResponse
  localQueue : List LocalResponse
  turn : Source
  -- the tables
  rules : Vector RuleEntry 32
  lanes : Vector Lane 16
  gens : Vector Generator 4
  hold : List HoldEntry
  tags : Vector TagEntry 128
  triggers : Vector Trigger 8
  -- what software reads of the past
  log : CaptureLog
  events : Events
  faults : Faults
  -- the Mode Controller
  mode : ModeState
  resume : Mode
  quiesceTimer : Option Nat
  limits : Limits
  straps : Straps
  resetCause : ResetCause
  -- the Management Port
  port : Port
  -- the model's own (log 4): a scan, an evaluation brought on and not yet made
  scanDue : Bool
  evalDue : Bool
  /-- The commands that are waiting, first in, first out. -/
  pending : List Instr
deriving DecidableEq, Repr

/-! ## Reset values -/

/-- The whole address space from `base` to the largest page, any requester, any kind: the reset window of a trigger
(R116); a rule's reset window ends at page 0 (R20). -/
def Pattern.reset (limit : Nat) : Pattern := { base := 0, limit := limit, value := 0, mask := 0, kinds := 7 }

/-- A Rule Table entry after reset (R20). -/
def RuleEntry.reset : RuleEntry :=
  { enabled := false, pattern := Pattern.reset 0, action := .forward, lane := 0, logRefusals := false }

/-- A configured record after reset (R34). -/
def LaneConfig.reset : LaneConfig :=
  { kind := .openLane, budget := Config.maxBudget, watermark := none, concurrency := none, policy := .hold,
    gen := 0, summary := false }

/-- A lane after reset (R34, R37, R38). -/
def Lane.reset : Lane :=
  { live := LaneConfig.reset, staged := LaneConfig.reset, balance := Config.maxBudget, consumed := 0, overrun := 0,
    watermarkReached := false, exhausted := false, liveCount := 0, lastConsumed := 0, totalForwarded := 0,
    totalHolds := 0, totalRefusals := 0, totalOverrun := 0 }

/-- A period generator after reset (R61). -/
def Generator.reset : Generator :=
  { livePeriod := 1000, stagedPeriod := 1000, remaining := 1000, expiries := 0, commitPending := false,
    expiring := false }

/-- A capture trigger after reset (R116). -/
def Trigger.reset : Trigger :=
  { enabled := false, mode := .once, gen := 0, pattern := Pattern.reset Config.maxPage, armed := false }

/-- The Capture Log after reset (R122). -/
def CaptureLog.reset : CaptureLog := { records := [], next := 0, lost := 0 }

/-- The event flags after reset (R133). -/
def Events.reset : Events :=
  { flags := Vector.replicate 13 { set := false, raises := 0, enabled := false }, watermarkLanes := 0,
    exhaustedLanes := 0, commitGens := 0 }

/-- The Fault Record and the counters after power-on reset (R142, R143). -/
def Faults.reset : Faults := { record := none, counts := Vector.replicate 8 0 }

/-- The nine global settings after reset (R175). -/
def Limits.reset : Limits :=
  { holdLimit := 2000, expiryAction := .force, responseLimit := some 10000, quiesceLimit := 10000,
    fullAction := .stall, logPolicy := .stop, logThreshold := 48, logRefusals := false, orphanAlarm := 32 }

/-- The Management Port in IDLE, with nothing received and nothing to send (R165). -/
def Port.idle : Port := { state := .idle, header := [], expect := 0, buffer := [], check := 0, reply := [] }

/-- The start mode the START code selects (R148). -/
def startMode (p : Straps) : Mode :=
  if p.start = 1 then .monitor else if p.start = 2 then .govern else .bypass

/-- The straps `State.reset` stands for (log 1). -/
def strapsAtReset : Straps :=
  { channel := Config.channelAtReset, start := Config.startAtReset, unmatched := Config.unmatchedAtReset }

/-- The governor right after a power-on reset has ended (R150), with the straps of log 1: every table, queue and
counter at the value its own chapter gives, the state and the resume mode at the start mode. -/
def State.reset : State :=
  { phase := .running, timebase := 0, offered := none, downRequest := none, downResponse := none, upResponse := none,
    localQueue := [], turn := .memorySide, rules := Vector.replicate 32 RuleEntry.reset,
    lanes := Vector.replicate 16 Lane.reset, gens := Vector.replicate 4 Generator.reset, hold := [],
    tags := Vector.replicate 128 TagEntry.free, triggers := Vector.replicate 8 Trigger.reset, log := CaptureLog.reset,
    events := Events.reset, faults := Faults.reset, mode := .operating (startMode strapsAtReset),
    resume := startMode strapsAtReset, quiesceTimer := none, limits := Limits.reset, straps := strapsAtReset,
    resetCause := .powerOn, port := Port.idle, scanDue := false, evalDue := false, pending := [] }

end Sys2Proof.Machine
end

