-- ==== Sys2Proof/Machine/Flags.lean ====
section
/-! DEFINITION. The Event Unit's operations (chapter 8): raising event flags, the ALERT line, counting faults. Also
the update of one place of a table and of all of them, which every later file uses. -/

namespace Sys2Proof.Machine

/-- A table with `f i` applied to the entry at each index `i`. -/
def mapVec {α β : Type} {n : Nat} (f : Fin n → α → β) (v : Vector α n) : Vector β n :=
  ⟨⟨(List.finRange n).map (fun i => f i v[i])⟩, by simp⟩

/-- The flag codes of section 11.3, in the order of the table of section 8.1. -/
def Flag.code : Flag → Fin 13
  | .watermark => 0
  | .exhausted => 1
  | .holdAged => 2
  | .holdExpired => 3
  | .responseTimeout => 4
  | .orphanReturn => 5
  | .tagsLow => 6
  | .logLevel => 7
  | .logLost => 8
  | .commitDone => 9
  | .quiesceDone => 10
  | .restartDone => 11
  | .fault => 12

/-- The place of a fault kind's counter, in fault-kind order (section 11.3). -/
def FaultKind.code : FaultKind → Fin 8
  | .malformed => 0
  | .tagClash => 1
  | .unknownResponse => 2
  | .responseTimeout => 3
  | .holdExpired => 4
  | .holdOverflow => 5
  | .quiesceForced => 6
  | .frameCheck => 7

/-- A flag after a raise: set, its raise count one higher modulo 256, its mask as it was (R134). -/
def EventFlag.raised (e : EventFlag) : EventFlag := { e with set := true, raises := e.raises + 1 }

/-- The Event Unit after a raise of flag `f` (R134). -/
def Events.raise (f : Flag) (e : Events) : Events :=
  { e with flags := e.flags.set f.code (e.flags[f.code]).raised }

/-- A raise of a flag that carries no member (R134). -/
def raise (f : Flag) (s : State) : State := { s with events := s.events.raise f }

/-- A raise of WATERMARK with its lane (R50, R134). -/
def raiseWatermark (l : LaneId) (s : State) : State :=
  { s with events := { s.events.raise .watermark with
      watermarkLanes := s.events.watermarkLanes ||| BitVec.twoPow 16 l } }

/-- A raise of EXHAUSTED with its lane (R51, R134). -/
def raiseExhausted (l : LaneId) (s : State) : State :=
  { s with events := { s.events.raise .exhausted with
      exhaustedLanes := s.events.exhaustedLanes ||| BitVec.twoPow 16 l } }

/-- A raise of COMMIT_DONE with its generator (R70, R134). -/
def raiseCommitDone (g : Gen) (s : State) : State :=
  { s with events := { s.events.raise .commitDone with
      commitGens := s.events.commitGens ||| BitVec.twoPow 4 g } }

/-- Whether ALERT is asserted: some set flag has its mask enabled (R137). -/
def alert (s : State) : Bool := s.events.flags.toList.any (fun e => e.set && e.enabled)

/-- The optional fields of QUIESCE_FORCED and FRAME_CHECK: none (R144). -/
def FaultDetails.none : FaultDetails :=
  { requester := .none, tag := .none, downTag := .none, address := .none, lane := .none, codes := .none }

/-- The Event Unit's counters and record after fault `k` at time `now` (R141, R143). -/
def Faults.counted (k : FaultKind) (d : FaultDetails) (now : Time) (f : Faults) : Faults :=
  { record := f.record.or (some { kind := k, timestamp := now, details := d })
    counts := f.counts.set k.code (satAdd Config.top16 f.counts[k.code] 1) }

/-- One fault: its counter advances, its details are offered to the Fault Record, FAULT is raised (R141). -/
def countFault (k : FaultKind) (d : FaultDetails) (s : State) : State :=
  raise .fault { s with faults := s.faults.counted k d s.timebase }

end Sys2Proof.Machine
end

