-- ==== Sys2Proof/Machine/Operands.lean ====
section
/-! DEFINITION. The forms a command's operand comes in: a request record and where its data ends (R3, R5), the bits
and bytes of a frame, its header and its check (R162 to R164, section 11.2). -/

namespace Sys2Proof.Machine

/-! ## Request records -/

/-- The first `n` beats, up to the marked last one if it is among them. -/
def beatsUpTo : Nat → List LinkBeat → List LinkBeat
  | 0, _ => []
  | _ + 1, [] => []
  | n + 1, b :: rest => if b.last then [b] else b :: beatsUpTo n rest

/-- The beats that belong to a record: they end at the marked last beat or at the sixteenth (R3). -/
def ownBeats (r : Request) : List LinkBeat := beatsUpTo Config.maxBeats r.beats

/-- The data of the record ends with a marked last beat (R3). -/
def endsMarked (bs : List LinkBeat) : Bool :=
  match bs.getLast? with
  | none => false
  | some b => b.last

/-- The kind a kind code names, if it is one of READ, WRITE and FETCH (section 11.6). -/
def kindOfCode (c : BitVec 2) : Option Kind :=
  if c = 0 then some .read else if c = 1 then some .write else if c = 2 then some .fetch else none

/-- The data fits the kind: a WRITE's marked last beat comes at beat length, a READ or FETCH carries none (R3). -/
def dataFits (k : Kind) (length : Nat) (bs : List LinkBeat) : Bool :=
  match k with
  | .read => bs.isEmpty
  | .write => endsMarked bs && decide (bs.length = length)
  | .fetch => bs.isEmpty

/-- The address and length a well-formed request may have: a multiple of 32, 1 to 16 beats, within one 4 KiB page
(R5). -/
def spanFits (a : Address) (length : Nat) : Bool :=
  decide (a.toNat % 32 = 0) && decide (1 ≤ length) && decide (length ≤ Config.maxBeats) &&
    decide (a.toNat % 4096 + 32 * length ≤ 4096)

/-- A well-formed request as the governor handles it, not yet classified; none when it is malformed (R5). -/
def wellFormedRequest (r : Request) : Option Passage :=
  match kindOfCode r.kind with
  | none => none
  | some k =>
    if spanFits r.address r.length.toNat && dataFits k r.length.toNat (ownBeats r) then
      some { requester := r.requester, tag := r.tag, kind := k, address := r.address, length := r.length.toNat,
             data := (ownBeats r).map LinkBeat.data, lane := none, rule := none }
    else none

/-! ## Bits and bytes of a frame -/

/-- The bytes that so many clocked bits complete, most significant bit first; a partial byte is dropped (R162). -/
def bytesOfBits : List Bool → List Byte
  | b7 :: b6 :: b5 :: b4 :: b3 :: b2 :: b1 :: b0 :: rest =>
    BitVec.ofBoolListBE [b7, b6, b5, b4, b3, b2, b1, b0] :: bytesOfBits rest
  | _ => []

/-- The eight bits of a byte in the order they are sent, most significant bit first (R162). -/
def bitsOfByte (b : Byte) : List Bool :=
  [b.getLsbD 7, b.getLsbD 6, b.getLsbD 5, b.getLsbD 4, b.getLsbD 3, b.getLsbD 2, b.getLsbD 1, b.getLsbD 0]

/-- `k` bytes of a number, most significant first (R179). -/
def beBytes : Nat → Nat → List Byte
  | 0, _ => []
  | k + 1, n => BitVec.ofNat 8 (n / 256 ^ k) :: beBytes k n

/-- The number that bytes spell, most significant first (R179). -/
def beNat (bs : List Byte) : Nat := bs.foldl (fun n b => n * 256 + b.toNat) 0

/-- One shift of the CRC register: polynomial x^8 + x^2 + x + 1 (R164). -/
def crcShift (c : Byte) : Byte := if c.msb then (c <<< 1) ^^^ 0x07 else c <<< 1

/-- The CRC register after one byte, most significant bit first (R164). -/
def crcByte (c b : Byte) : Byte :=
  crcShift (crcShift (crcShift (crcShift (crcShift (crcShift (crcShift (crcShift (c ^^^ b))))))))

/-- The CRC-8 of bytes in the order they are sent, from an initial value of 0 (R164). -/
def crc8 (bs : List Byte) : Byte := bs.foldl crcByte 0

/-- The class codes of section 11.2. -/
def classCode : ObjectClass → Nat
  | .identity => 0
  | .mode => 1
  | .limits => 2
  | .rule => 3
  | .laneStaged => 4
  | .laneLive => 5
  | .period => 6
  | .commit => 7
  | .trigger => 8
  | .log => 9
  | .events => 10
  | .masks => 11
  | .fault => 12
  | .timebase => 13
  | .hold => 14
  | .tags => 15

/-- The class a four-bit code names; every value names one (section 11.2). -/
def classOfCode (n : Nat) : ObjectClass :=
  match n with
  | 0 => .identity
  | 1 => .mode
  | 2 => .limits
  | 3 => .rule
  | 4 => .laneStaged
  | 5 => .laneLive
  | 6 => .period
  | 7 => .commit
  | 8 => .trigger
  | 9 => .log
  | 10 => .events
  | 11 => .masks
  | 12 => .fault
  | 13 => .timebase
  | 14 => .hold
  | _ => .tags

/-- The direction bit (section 11.2). -/
def directionCode : Direction → Nat
  | .read => 0
  | .write => 1

/-- Byte 0 of a frame: channel in bits 7 to 5, direction in bit 4, class in bits 3 to 0 (section 11.2). -/
def headerByte (channel : Fin 8) (d : Direction) (c : ObjectClass) : Byte :=
  BitVec.ofNat 8 (channel * 32 + directionCode d * 16 + classCode c)

/-- The channel in byte 0. -/
def channelOf (b : Byte) : Fin 8 := ⟨b.toNat / 32, by omega⟩

/-- The direction in byte 0. -/
def directionOf (b : Byte) : Direction := if b.toNat / 16 % 2 = 0 then .read else .write

/-- The object class in byte 0. -/
def classOf (b : Byte) : ObjectClass := classOfCode (b.toNat % 16)

/-- The bytes of a frame that its check covers: header, index, payload length, payload (R163, R164). -/
def coveredBytes (d : Direction) (c : ObjectClass) (f : Frame) : List Byte :=
  headerByte f.channel d c :: f.index :: BitVec.ofNat 8 f.payload.length :: f.payload

/-- The bytes the controller sends in a frame, the check byte last (R163). -/
def frameBytes (d : Direction) (c : ObjectClass) (f : Frame) : List Byte := coveredBytes d c f ++ [f.check]

/-- The frame's check verifies (R164). -/
def frameVerifies (d : Direction) (c : ObjectClass) (f : Frame) : Bool := crc8 (coveredBytes d c f) == f.check

/-- The request codes of MODE (section 11.4). -/
def modeCodes : List Byte := [0, 1, 2, 3, 4, 5]
/-- The operation codes of COMMIT, and those of FAULT (section 11.3). -/
def twoCodes : List Byte := [1, 2]

/-- The frame's operation code byte, its first payload byte, is one of `listed` but not `own`: the frame spells the
operation of another row (log 11). -/
def spellsOther (listed : List Byte) (own : Byte) (f : Frame) : Bool :=
  match f.payload with
  | [] => false
  | b :: _ => listed.contains b && b != own

/-- The bytes end before a frame's check byte has completed (R169). -/
def beforeCheck : List Byte → Bool
  | _ :: _ :: length :: rest => decide (rest.length ≤ length.toNat)
  | _ => true

end Sys2Proof.Machine
end

