-- ==== Sys2Proof/Machine/Ops.lean ====
section
/-! DEFINITION. The operations every block shares: one place of a table, the counts of the In-Flight Table and the
store, what brings on a scan or an evaluation, room in the queues. -/

namespace Sys2Proof.Machine

/-! ## One place of a table -/

/-- Lane `l` replaced by `f` of it. -/
def updateLane (l : LaneId) (f : Lane → Lane) (s : State) : State :=
  { s with lanes := s.lanes.set l (f s.lanes[l]) }

/-- Generator `g` replaced by `f` of it. -/
def updateGen (g : Gen) (f : Generator → Generator) (s : State) : State :=
  { s with gens := s.gens.set g (f s.gens[g]) }

/-- In-Flight Table entry `t` replaced. -/
def setTag (t : DownTag) (e : TagEntry) (s : State) : State := { s with tags := s.tags.set t e }

/-- The held entry at position `n` replaced by `f` of it; positions count from the oldest (R96). -/
def updateHeld (n : Nat) (f : HoldEntry → HoldEntry) (s : State) : State :=
  { s with hold := s.hold.modify n f }

/-! ## Changes that bring on a scan or an evaluation (R6, R82; log 4) -/

/-- A release scan is brought on; an empty queue is not scanned (R82). -/
def bringScan (s : State) : State := { s with scanDue := s.scanDue || !s.hold.isEmpty }

/-- An evaluation of the offered request is brought on, if one is offered (R6). -/
def bringEval (s : State) : State := { s with evalDue := s.evalDue || s.offered.isSome }

/-- Both are brought on. -/
def bringOn (s : State) : State := bringEval (bringScan s)

/-! ## The In-Flight Table (R97) -/

/-- The entry is FREE. -/
def TagEntry.isFree : TagEntry → Bool
  | .free => true
  | .live _ => false
  | .orphaned _ => false

/-- The entry is LIVE. -/
def TagEntry.isLive : TagEntry → Bool
  | .free => false
  | .live _ => true
  | .orphaned _ => false

/-- The entry is ORPHANED. -/
def TagEntry.isOrphaned : TagEntry → Bool
  | .free => false
  | .live _ => false
  | .orphaned _ => true

/-- The entry is LIVE and carries lane `l` (R44). -/
def TagEntry.isLiveOn (l : LaneId) : TagEntry → Bool
  | .free => false
  | .live f => f.lane == some l
  | .orphaned _ => false

/-- The entry is LIVE with upstream tag `u` (R9). -/
def TagEntry.isLiveWith (u : UpTag) : TagEntry → Bool
  | .free => false
  | .live f => f.tag == u
  | .orphaned _ => false

/-- How many In-Flight Table entries satisfy `p`. -/
def countTags (p : TagEntry → Bool) (s : State) : Nat := s.tags.toList.countP p

/-- The number of FREE entries (R97). -/
def freeCount (s : State) : Nat := countTags TagEntry.isFree s
/-- The number of LIVE entries (R97). -/
def liveTotal (s : State) : Nat := countTags TagEntry.isLive s
/-- The orphan count (R111). -/
def orphanCount (s : State) : Nat := countTags TagEntry.isOrphaned s

/-- The lowest-numbered FREE downstream tag, if any (R99). -/
def lowestFree (s : State) : Option DownTag := (List.finRange 128).find? (fun t => s.tags[t].isFree)

/-! ## The Hold Queue and its store -/

/-- The beats of the store an entry uses: its length for a WRITE, none for READ and FETCH (R78). -/
def HoldEntry.storeBeats (e : HoldEntry) : Nat :=
  match e.req.kind with
  | .write => e.req.length
  | .read => 0
  | .fetch => 0

/-- The used beats of the Write Data Store (R76). -/
def usedBeats (s : State) : Nat := (s.hold.map HoldEntry.storeBeats).sum

/-- There is room to hold `p`: a slot, and for a WRITE free beats (R95). -/
def hasRoom (p : Passage) (s : State) : Bool :=
  decide (s.hold.length < Config.holdCapacity) &&
    (p.kind != .write || decide (usedBeats s + p.length ≤ Config.storeCapacity))

/-- The requester has a held entry, in any state (R80). -/
def hasHeld (r : Requester) (s : State) : Bool := s.hold.any (fun e => e.req.requester == r)

/-- The upstream tag clashes with a held or a LIVE entry's (R9). -/
def clashes (u : UpTag) (s : State) : Bool :=
  s.hold.any (fun e => e.req.tag == u) || s.tags.toList.any (TagEntry.isLiveWith u)

/-! ## The Local Response Queue (R15) -/

/-- A slot of the Local Response Queue is free (R15). -/
def slotFree (s : State) : Bool := decide (s.localQueue.length < Config.localCapacity)

/-- A local response joins the queue as its youngest entry (R15). -/
def queueLocal (u : UpTag) (st : Status) (s : State) : State :=
  { s with localQueue := s.localQueue ++ [{ tag := u, status := st }] }

/-! ## The mode -/

/-- The mode in force for held entries and charges: the operating mode, or the resume mode while the Mode Controller
is in a transitional state (R83). -/
def modeInForce (s : State) : Mode :=
  match s.mode with
  | .operating m => m
  | .quiescing => s.resume
  | .quiesced => s.resume
  | .restarting => s.resume

/-- An event that takes place while no reset lasts; while one does, it leaves the state as it is (R19, R150, R165). -/
def whileRunning (f : State → State) (s : State) : Host.Outcome State Fault Refusal :=
  match s.phase with
  | .running => .next (f s)
  | .inReset _ => .next s

end Sys2Proof.Machine
end

