-- ==== Sys2Proof/Machine/Credit.lean ====
section
/-! DEFINITION. The Credit Unit (chapter 3): the conformance test, the charge, WATERMARK and EXHAUSTED, the live
count, replenishment and the lanes' part of a restart. -/

namespace Sys2Proof.Machine

/-- The lane has credit (R35). -/
def Lane.hasCredit (l : Lane) : Bool :=
  match l.live.kind with
  | .metered => decide (1 ≤ l.balance)
  | .openLane => true
  | .closed => false

/-- The lane has concurrency (R39, R43). -/
def Lane.hasConcurrency (l : Lane) : Bool :=
  match l.live.concurrency with
  | none => true
  | some k => decide (l.liveCount < k)

/-- A lane's balance after a charge of `cost` beats: it falls on a METERED lane alone, and without credit not below
the floor (R47, R48, R49). -/
def Lane.chargedBalance (cost : Nat) (l : Lane) : Int :=
  match l.live.kind with
  | .metered => if l.hasCredit then l.balance - cost else max (l.balance - cost) Config.debtFloor
  | .openLane => l.balance
  | .closed => l.balance

/-- A lane after a charge of `cost` beats, with credit or without (R47, R48, R49). -/
def Lane.charged (cost : Nat) (l : Lane) : Lane :=
  let overrunCost := if l.hasCredit then 0 else cost
  { l with
    balance := l.chargedBalance cost
    consumed := satAdd Config.top32 l.consumed cost
    overrun := satAdd Config.top32 l.overrun overrunCost
    totalForwarded := l.totalForwarded + BitVec.ofNat 48 cost
    totalOverrun := satAdd Config.top32 l.totalOverrun overrunCost }

/-- A test or charge has found lane `l` without credit: EXHAUSTED is raised, once a period (R51). -/
def noteExhausted (l : LaneId) (s : State) : State :=
  if s.lanes[l].exhausted then s
  else raiseExhausted l (updateLane l (fun x => { x with exhausted := true }) s)

/-- The lane's consumption stands at or above its watermark. -/
def Lane.atWatermark (l : Lane) : Bool :=
  match l.live.watermark with
  | none => false
  | some w => decide (w ≤ l.consumed)

/-- After a charge: WATERMARK is raised when the lane's consumption has reached its watermark, once a period (R50). -/
def noteWatermark (l : LaneId) (s : State) : State :=
  if s.lanes[l].atWatermark && !s.lanes[l].watermarkReached then
    raiseWatermark l (updateLane l (fun x => { x with watermarkReached := true }) s)
  else s

/-- The charge of `cost` beats on lane `l`, one whole event (R47 to R51). -/
def charge (l : LaneId) (cost : Nat) (s : State) : State :=
  let s' := updateLane l (Lane.charged cost) s
  noteWatermark l (if s.lanes[l].hasCredit then s' else noteExhausted l s')

/-- The charge a forward makes: none without a lane, none in BYPASS (R46, R47). -/
def chargeFor (p : Passage) (s : State) : State :=
  match p.lane with
  | none => s
  | some l =>
    match modeInForce s with
    | .bypass => s
    | .monitor => charge l p.length s
    | .govern => charge l p.length s

/-- The forward of `p` now would be charged without credit (R48, R49): the mark of R119. -/
def isMark (p : Passage) (s : State) : Bool :=
  match p.lane with
  | none => false
  | some l => modeInForce s != .bypass && !s.lanes[l].hasCredit

/-- The live count of the lane carried, if any, rises by one (R44). -/
def liveRises (lane : Option LaneId) (s : State) : State :=
  match lane with
  | none => s
  | some l => updateLane l (fun x => { x with liveCount := x.liveCount + 1 }) s

/-- The live count of the lane carried, if any, falls by one (R44). -/
def liveFalls (lane : Option LaneId) (s : State) : State :=
  match lane with
  | none => s
  | some l => updateLane l (fun x => { x with liveCount := x.liveCount - 1 }) s

/-- EXHAUSTED for the lane carried, if any, when `short`, its conformance test, found no credit (R51). -/
def noteShort (lane : Option LaneId) (short : Bool) (s : State) : State :=
  match lane with
  | none => s
  | some l => if short then noteExhausted l s else s

/-- The lane carried, if any, counts a hold (R52). -/
def countHold (lane : Option LaneId) (s : State) : State :=
  match lane with
  | none => s
  | some l => updateLane l (fun x => { x with totalHolds := satAdd Config.top32 x.totalHolds 1 }) s

/-- The lane carried, if any, counts a refusal (R52). -/
def countRefusal (lane : Option LaneId) (s : State) : State :=
  match lane with
  | none => s
  | some l => updateLane l (fun x => { x with totalRefusals := satAdd Config.top32 x.totalRefusals 1 }) s

/-- The balance a new period starts with, under the configured record `c` (R54). -/
def Lane.refilled (c : LaneConfig) (l : Lane) : Int :=
  match c.kind with
  | .metered => c.budget + min 0 l.balance
  | .openLane => c.budget
  | .closed => c.budget

/-- A lane after its replenishment; `commit` is whether the expiry carries commit pending (R53, R54, R71). -/
def Lane.replenished (commit : Bool) (l : Lane) : Lane :=
  let c := if commit then l.staged else l.live
  { l with
    live := c
    lastConsumed := l.consumed
    balance := l.refilled c
    consumed := 0
    overrun := 0
    watermarkReached := false
    exhausted := false }

/-- A lane at the completion of a RESTART (R58). -/
def Lane.restarted (l : Lane) : Lane :=
  { l with
    balance := l.live.budget
    consumed := 0
    overrun := 0
    watermarkReached := false
    exhausted := false
    lastConsumed := 0 }

/-- A lane with its five statistics at 0 (R57). -/
def Lane.cleared (l : Lane) : Lane :=
  { l with lastConsumed := 0, totalForwarded := 0, totalHolds := 0, totalRefusals := 0, totalOverrun := 0 }

end Sys2Proof.Machine
end

