-- ==== Sys2Proof/Machine/Capture.lean ====
section
/-! DEFINITION. The Capture Unit (chapter 7): patterns, triggers, the arrival of a record at the Capture Log. -/

namespace Sys2Proof.Machine

/-- The kind codes of the link (section 11.6). -/
def Kind.code : Kind → BitVec 2
  | .read => 0
  | .write => 1
  | .fetch => 2

/-- The page of a request: its start address divided by 4096, the remainder dropped (R24). -/
def Passage.page (p : Passage) : Nat := p.address.toNat / 4096

/-- The request lies in the window, its requester agrees with the value at every masked position, and its kind is in
the kinds set (R24 items 2 to 4, R118 items 2 to 4). -/
def Pattern.admits (x : Pattern) (p : Passage) : Bool :=
  decide (x.base ≤ p.page) && decide (p.page ≤ x.limit) && (p.requester &&& x.mask == x.value &&& x.mask) &&
    x.kinds.getLsbD p.kind.code.toNat

/-- The request fields of a record of a well-formed request (R123, R182). -/
def Passage.record (p : Passage) : RecordRequest :=
  { requester := p.requester, tag := p.tag, kind := p.kind.code, address := p.address,
    length := BitVec.ofNat 5 p.length }

/-- The request fields of a record of an In-Flight Table entry (R103, R108). -/
def Flight.record (f : Flight) : RecordRequest :=
  { requester := f.requester, tag := f.tag, kind := f.kind.code, address := f.address,
    length := BitVec.ofNat 5 f.length }

/-! ## The Capture Log (section 7.4) -/

/-- A record stored at the young end, and LOG_LEVEL when the count rises to the threshold (R128, R129). -/
def storeRecord (r : CaptureRecord) (s : State) : State :=
  let s' := { s with log := { s.log with records := s.log.records ++ [r] } }
  if s.log.records.length + 1 = s.limits.logThreshold then raise .logLevel s' else s'

/-- The records of a full log after one more arrival, under each log policy (R128). -/
def overflowed (p : LogPolicy) (r : CaptureRecord) (rs : List CaptureRecord) : List CaptureRecord :=
  match p with
  | .stop => rs
  | .wrap => rs.drop 1 ++ [r]

/-- A record that reaches a full log: one loss is counted and LOG_LOST raised (R128, R130). -/
def loseRecord (r : CaptureRecord) (s : State) : State :=
  raise .logLost { s with log := { s.log with
    records := overflowed s.limits.logPolicy r s.log.records
    lost := satAdd Config.top16 s.log.lost 1 } }

/-- The next sequence number is spent (R124). -/
def spendSeq (s : State) : State := { s with log := { s.log with next := s.log.next + 1 } }

/-- A record reaches the Capture Log: it takes the next sequence number and the Timebase value, and is stored or
meets the log policy (R123, R124, R128). -/
def logRecord (b : RecordBody) (s : State) : State :=
  let r : CaptureRecord := { seq := s.log.next, timestamp := s.timebase, body := b }
  spendSeq (if s.log.records.length < Config.logCapacity then storeRecord r s else loseRecord r s)

/-! ## Capture triggers (section 7.1) -/

/-- The trigger matches the request (R118). -/
def Trigger.fires (t : Trigger) (p : Passage) : Bool := t.enabled && t.armed && t.pattern.admits p

/-- A trigger after a match: ONCE and FIRST_IN_PERIOD are disarmed (R120). -/
def Trigger.matched (t : Trigger) : Trigger :=
  match t.mode with
  | .once => { t with armed := false }
  | .every => t
  | .firstInPeriod => { t with armed := false }

/-- The trigger set of a record: bit n is set when trigger n matches (R119, section 11.5). -/
def firedSet (p : Passage) (ts : Vector Trigger 8) : BitVec 8 :=
  (List.finRange 8).foldl (fun b t => if ts[t].fires p then b ||| BitVec.twoPow 8 t else b) 0

/-- The triggers are evaluated on a taken request: matches give one TRIGGER record showing the disposition, and
disarm what a match disarms (R119, R120). -/
def evaluateTriggers (p : Passage) (shown : Shown) (s : State) : State :=
  if s.triggers.toList.any (fun t => t.fires p) then
    logRecord (.trigger p.record p.lane p.rule (firedSet p s.triggers) shown)
      { s with triggers := mapVec (fun _ t => if t.fires p then t.matched else t) s.triggers }
  else s

/-- The trigger armed by an expiry of generator `g`: enabled, FIRST_IN_PERIOD and naming `g` (R64). -/
def Trigger.armedBy (g : Gen) (t : Trigger) : Trigger :=
  if t.enabled && t.mode == .firstInPeriod && t.gen == g then { t with armed := true } else t

/-- A trigger at the completion of a RESTART: ONCE and FIRST_IN_PERIOD are armed when enabled (R120). -/
def Trigger.restarted (t : Trigger) : Trigger :=
  match t.mode with
  | .once => { t with armed := t.armed || t.enabled }
  | .every => t
  | .firstInPeriod => { t with armed := t.armed || t.enabled }

end Sys2Proof.Machine
end

