-- ==== Sys2Proof/Machine/TagUnit.lean ====
section
/-! DEFINITION. The Tag Unit (chapter 6) and the Forwarding Arbiter's grant (R13, R87, R99). -/

namespace Sys2Proof.Machine

/-- The In-Flight Table entry of a request granted now (R98, R99). -/
def flightOf (p : Passage) (s : State) : Flight :=
  { tag := p.tag, requester := p.requester, kind := p.kind, address := p.address, length := p.length,
    lane := p.lane, rule := p.rule, forwardedAt := s.timebase, remaining := s.limits.responseLimit,
    timeoutPending := false }

/-- The record that leaves by the Downstream Port: the request with downstream tag `t` in place of its own (R2). -/
def downRecord (p : Passage) (t : DownTag) : DownRequest :=
  { requester := p.requester, tag := t, kind := p.kind, address := p.address, length := p.length, data := p.data }

/-- The grant of the downstream request channel to `p` with tag `t`: the charge, the LIVE entry, the live count and
the record on offer, in one event (R13, R44, R47, R87, R99). -/
def grant (p : Passage) (t : DownTag) (s : State) : State :=
  { setTag t (.live (flightOf p s)) (liveRises p.lane (chargeFor p s)) with downRequest := some (downRecord p t) }

/-- A LIVE entry leaves the LIVE state: entry `t` becomes `e`, the live count of its lane falls, and a scan and an
evaluation are brought on (R44, R82, R102, R108). -/
def leaveLive (t : DownTag) (f : Flight) (e : TagEntry) (s : State) : State :=
  bringOn (liveFalls f.lane (setTag t e s))

/-- TAGS_LOW when the orphan count has just risen to the alarm level (R112). -/
def noteOrphans (s : State) : State :=
  if orphanCount s = s.limits.orphanAlarm then raise .tagsLow s else s

/-- An entry after its timeout: ORPHANED with its fields, without countdown and timeout pending (R98, R108). -/
def Flight.orphan (f : Flight) : TagEntry := .orphaned { f with remaining := none, timeoutPending := false }

/-- The details a RESPONSE_TIMEOUT fault carries (R144). -/
def Flight.faultDetails (f : Flight) (t : DownTag) : FaultDetails :=
  { requester := some f.requester, tag := some f.tag, downTag := some t, address := some f.address, lane := f.lane,
    codes := none }

/-- The details an UNKNOWN_RESPONSE fault carries (R144). -/
def unknownDetails (t : DownTag) : FaultDetails := { FaultDetails.none with downTag := some t }

/-- A LIVE entry after one tick: a deadline that runs and is not timeout pending falls by one (R107). -/
def TagEntry.ticked : TagEntry → TagEntry
  | .free => .free
  | .live f => if f.timeoutPending then .live f else .live { f with remaining := f.remaining.map (· - 1) }
  | .orphaned f => .orphaned f

/-- The entry's response countdown has reached 0 and its RESPONSE_DEADLINE has not come yet (R107). -/
def TagEntry.deadlineDue : TagEntry → Bool
  | .free => false
  | .live f => !f.timeoutPending && f.remaining == some 0
  | .orphaned _ => false

end Sys2Proof.Machine
end

