-- ==== Sys2Proof/Machine/HoldQueue.lean ====
section
/-! DEFINITION. The Hold Queue and its release scan (chapter 5). -/

namespace Sys2Proof.Machine

/-! ## Entries -/

/-- The entry a request taken as a hold joins the queue with (R77, R79). -/
def heldEntry (p : Passage) (c : Cause) (s : State) : HoldEntry :=
  { req := p, cause := c, takenAt := s.timebase, holdLimit := s.limits.holdLimit, remaining := s.limits.holdLimit,
    aged := false, forced := false, refusal := none, waited := 0 }

/-- The entry is neither forced nor refusal pending: its countdown runs (R90). -/
def HoldEntry.waits (e : HoldEntry) : Bool := !e.forced && e.refusal.isNone

/-- The entry made refusal pending with `r`; a status once set stays (R93). -/
def HoldEntry.refuse (r : HoldRefusal) (e : HoldEntry) : HoldEntry := { e with refusal := e.refusal.or (some r) }

/-- The entry made forced (R91). -/
def HoldEntry.force (e : HoldEntry) : HoldEntry := { e with forced := true, remaining := 0 }

/-- The entry after one tick (R90). -/
def HoldEntry.ticked (e : HoldEntry) : HoldEntry :=
  { e with
    remaining := if e.waits then e.remaining - 1 else e.remaining
    waited := satAdd Config.top32 e.waited 1 }

/-- The entry's countdown has reached half its hold limit and its HOLD_AGED has not come yet (R90). -/
def HoldEntry.agingDue (e : HoldEntry) : Bool :=
  e.waits && !e.aged && decide (e.holdLimit / 2 ≠ 0) && e.remaining == e.holdLimit / 2

/-- The entry's countdown has reached 0 and its expiry has not come yet (R90). -/
def HoldEntry.expiryDue (e : HoldEntry) : Bool := e.waits && e.remaining == 0

/-- The details a HOLD_EXPIRED fault carries (R144). -/
def HoldEntry.faultDetails (e : HoldEntry) : FaultDetails :=
  { requester := some e.req.requester, tag := some e.req.tag, downTag := none, address := some e.req.address,
    lane := e.req.lane, codes := none }

/-- A HOLD_EXPIRY record of the entry (R91, R92, R123). -/
def HoldEntry.expiryRecord (e : HoldEntry) (sent : ExpirySent) (wait : Nat) : RecordBody :=
  .holdExpiry e.req.record e.req.lane e.req.rule sent e.cause wait

/-- The upstream status a refusal pending entry is answered with (R93). -/
def HoldRefusal.status : HoldRefusal → Status
  | .rate => .refusedRate
  | .expired => .expired
  | .withdrawn => .withdrawn

/-- The FORCE cascade of the entry at position `n`: that entry and every older one of its requester that is not
refusal pending become forced (R91). -/
def forceCascade (n : Nat) (e : HoldEntry) (q : List HoldEntry) : List HoldEntry :=
  q.mapIdx (fun i x =>
    if i ≤ n ∧ x.req.requester = e.req.requester ∧ x.refusal = none then x.force else x)

/-! ## The judgement of an entry (R81, R83, R84) -/

/-- What a scan decides for an entry: it stays held, it is eligible for release, or its lane refuses it (R81).
`short` says that a conformance test was made and found the lane without credit (R51, R84). -/
inductive Judgement where
  | stays (short : Bool)
  | eligible (short : Bool)
  | refused
deriving DecidableEq, Repr

/-- The entry is eligible, if a tag is FREE (R83). -/
def Judgement.isEligible : Judgement → Bool
  | .stays _ => false
  | .eligible _ => true
  | .refused => false

/-- The test made found no credit. -/
def Judgement.isShort : Judgement → Bool
  | .stays b => b
  | .eligible b => b
  | .refused => true

/-- The conformance test at release and the lane's exhaustion policy (R39, R84). -/
def Lane.judgeHeld (l : Lane) : Judgement :=
  if l.hasCredit then (if l.hasConcurrency then .eligible false else .stays false)
  else
    match l.live.policy with
    | .hold => .stays true
    | .refuse => .refused
    | .mark => if l.hasConcurrency then .eligible true else .stays true

/-- An older entry of the requester that is not refusal pending blocks (R80). -/
def blockedBy (older : List HoldEntry) (e : HoldEntry) : Bool :=
  older.any (fun x => x.req.requester == e.req.requester && x.refusal.isNone)

/-- The judgement of an unblocked, not refusal pending, unforced entry that carries lane `l` (R83). -/
def judgeOnLane (s : State) (l : LaneId) : Judgement :=
  match modeInForce s with
  | .bypass => .eligible false
  | .monitor => .eligible false
  | .govern => s.lanes[l].judgeHeld

/-- The judgement of an entry behind the entries `older` (R81, R83, R84); the tag supply is asked apart (R86). -/
def judge (s : State) (older : List HoldEntry) (e : HoldEntry) : Judgement :=
  if e.refusal.isSome || blockedBy older e then .stays false
  else if e.forced then .eligible false
  else
    match e.req.lane with
    | none => .eligible false
    | some l => judgeOnLane s l

/-- Some entry of `rest`, standing behind `older`, is eligible by R83. -/
def someEligible (s : State) : List HoldEntry → List HoldEntry → Bool
  | _, [] => false
  | older, e :: rest => (judge s older e).isEligible || someEligible s (older ++ [e]) rest

/-- The Upstream Port's judgement for an arrival: a held entry is eligible by R83 and R86, as the state stands,
with no effect of its own (R85). -/
def heldEligible (s : State) : Bool := (lowestFree s).isSome && someEligible s [] s.hold

/-! ## The release scan (R81) -/

/-- What a scan has found: the queue with the refusals decided, the lanes tested short of credit in the order of the
tests, and the position of the oldest eligible entry. -/
structure Scan where
  entries : List HoldEntry
  shorts : List LaneId
  first : Option Nat
deriving DecidableEq, Repr

/-- The entry after its judgement: refusal pending with REFUSED_RATE when its lane refuses it (R84). -/
def Judgement.applied (j : Judgement) (e : HoldEntry) : HoldEntry :=
  match j with
  | .stays _ => e
  | .eligible _ => e
  | .refused => e.refuse .rate

/-- The lane a judgement found short of credit, if any. -/
def Judgement.shortLane (j : Judgement) (e : HoldEntry) : List LaneId :=
  if j.isShort then e.req.lane.toList else []

/-- The scan over `rest`, behind the entries `older` already judged, oldest first (R81). The lanes, the mode and the
tags it asks are those of `s`: the grant comes after the last judgement (log 8). -/
def scan (s : State) : List HoldEntry → List HoldEntry → Scan
  | older, [] => { entries := older, shorts := [], first := none }
  | older, e :: rest =>
    let j := judge s older e
    let r := scan s (older ++ [j.applied e]) rest
    { entries := r.entries
      shorts := j.shortLane e ++ r.shorts
      first := if j.isEligible then some older.length else r.first }

/-- EXHAUSTED for every lane the scan tested without credit (R51, R84). -/
def noteShorts (ls : List LaneId) (s : State) : State := ls.foldl (fun s l => noteExhausted l s) s

/-- Release of the entry at position `n` with tag `t`: the grant, and the entry leaves the queue (R87). -/
def release (n : Nat) (t : DownTag) (s : State) : State :=
  match s.hold[n]? with
  | none => s
  | some e => bringOn { grant e.req t s with hold := s.hold.eraseIdx n }

/-- The Forwarding Arbiter's grant to the scan's oldest eligible entry: made when the downstream request channel is
free and a tag is FREE (R81, R85, R86). -/
def grantHeld (first : Option Nat) (s : State) : State :=
  match s.downRequest, lowestFree s, first with
  | none, some t, some n => release n t s
  | _, _, _ => s

/-- One release scan: the judgements and their effects, then the grant (R81). A refusal decided brings on the next
scan (R82), and an evaluation, since the arbiter's choice may change with it (R6, R85). -/
def releaseScan (s : State) : State :=
  let r := scan s [] s.hold
  let judged := noteShorts r.shorts { s with hold := r.entries, scanDue := false }
  grantHeld r.first (if r.entries = s.hold then judged else bringOn judged)

/-! ## Leaving by a local response (R94) -/

/-- The position and entry of the oldest refusal pending entry (R94). -/
def oldestRefused (q : List HoldEntry) : Option Nat := q.findIdx? (fun e => e.refusal.isSome)

/-- What the queuing of an entry's local response counts and records, by its status (R94, R125). -/
def recordLeaving (e : HoldEntry) (r : HoldRefusal) (s : State) : State :=
  match r with
  | .rate =>
    let s' := countRefusal e.req.lane s
    if s.limits.logRefusals then
      logRecord (.refusal e.req.record e.req.lane e.req.rule .refusedRate .release) s'
    else s'
  | .expired => logRecord (e.expiryRecord .expired e.waited) s
  | .withdrawn => s

/-- The entry at position `n`, refusal pending with `r`, takes a slot: its response is queued and it leaves (R94). -/
def leaveRefused (n : Nat) (e : HoldEntry) (r : HoldRefusal) (s : State) : State :=
  bringOn (recordLeaving e r { queueLocal e.req.tag r.status s with hold := s.hold.eraseIdx n })

end Sys2Proof.Machine
end

