-- ==== Sys2Proof/Machine/Mode.lean ====
section
/-! DEFINITION. The Mode Controller (chapter 9): withdrawal, the completions of quiesce and restart, the mode
requests, the resets. -/

namespace Sys2Proof.Machine

/-- Every held entry not already refusal pending becomes refusal pending with WITHDRAWN (R93, R156, R159). -/
def withdrawAll (s : State) : State := bringOn { s with hold := s.hold.map (HoldEntry.refuse .withdrawn) }

/-- The state has changed to `m`, which brings on a scan and an evaluation (R6, R82). -/
def enter (m : ModeState) (s : State) : State := bringOn { s with mode := m }

/-- The quiesce completes when, in QUIESCING, nothing is held and no entry is LIVE (R155). -/
def completeQuiesce (s : State) : State :=
  if s.mode = .quiescing ∧ s.hold = [] ∧ liveTotal s = 0 then
    raise .quiesceDone (enter .quiesced { s with quiesceTimer := none })
  else s

/-- A generator at the completion of a RESTART (R74; log 17). -/
def Generator.restarted (g : Generator) : Generator :=
  { g with remaining := g.livePeriod, commitPending := false, expiring := false }

/-- Stages 1 to 3 of the completion of a RESTART: lanes, generators, triggers (R160). -/
def restartPeriods (s : State) : State :=
  { s with
    lanes := mapVec (fun _ l => l.restarted) s.lanes
    gens := mapVec (fun _ g => g.restarted) s.gens
    triggers := mapVec (fun _ t => t.restarted) s.triggers }

/-- The RESTART completes when, in RESTARTING, nothing is held (R160). -/
def completeRestart (s : State) : State :=
  if s.mode = .restarting ∧ s.hold = [] then
    enter (.operating s.resume) (raise .restartDone (restartPeriods s))
  else s

/-- After an event that may have drained the governor, both completions are judged (R155, R160). -/
def judgeDrained (s : State) : State := completeRestart (completeQuiesce s)

/-! ## Mode requests (R151) -/

/-- The management statuses (R172). -/
inductive MgmtStatus where
  | ok | badCheck | badClass | badLength | badValue | wrongMode | busy | notCleared | notPending
deriving DecidableEq, Repr

/-- What the block that owns an object answers to a frame: the state after it, the status, and the reply payload. -/
structure Answer where
  state : State
  status : MgmtStatus
  payload : List Byte
deriving DecidableEq, Repr

/-- OK, with the state after the frame and no reply payload. -/
def Answer.ok (s : State) : Answer := { state := s, status := .ok, payload := [] }

/-- A refusal: nothing is changed and no payload is sent. -/
def Answer.refuse (st : MgmtStatus) (s : State) : Answer := { state := s, status := st, payload := [] }

/-- A request of BYPASS, MONITOR or GOVERN (R151, R152). A request for the mode in force brings nothing on. -/
def requestMode (m : Mode) (s : State) : Answer :=
  match s.mode with
  | .operating now =>
    Answer.ok (if now = m then { s with resume := m } else enter (.operating m) { s with resume := m })
  | .quiescing => Answer.refuse .wrongMode s
  | .quiesced => Answer.refuse .wrongMode s
  | .restarting => Answer.refuse .busy s

/-- A QUIESCE request (R151, R154). -/
def requestQuiesce (s : State) : Answer :=
  match s.mode with
  | .operating now =>
    Answer.ok (completeQuiesce
      (enter .quiescing { s with resume := now, quiesceTimer := some s.limits.quiesceLimit }))
  | .quiescing => Answer.refuse .wrongMode s
  | .quiesced => Answer.refuse .wrongMode s
  | .restarting => Answer.refuse .busy s

/-- The return to the resume mode, with the quiesce timer stopped (R158). -/
def resumed (s : State) : State := enter (.operating s.resume) { s with quiesceTimer := none }

/-- A RESUME request (R151, R158). -/
def requestResume (s : State) : Answer :=
  match s.mode with
  | .operating _ => Answer.refuse .wrongMode s
  | .quiescing => Answer.ok (resumed s)
  | .quiesced => Answer.ok (resumed s)
  | .restarting => Answer.refuse .busy s

/-- A RESTART accepted with `m` as the resume mode (R159, R160). -/
def restartFrom (m : Mode) (s : State) : State :=
  completeRestart (withdrawAll (enter .restarting { s with resume := m }))

/-- A RESTART request (R151, R159). -/
def requestRestart (s : State) : Answer :=
  match s.mode with
  | .operating now => Answer.ok (restartFrom now s)
  | .quiescing => Answer.refuse .wrongMode s
  | .quiesced => Answer.ok (restartFrom s.resume s)
  | .restarting => Answer.refuse .busy s

/-! ## Resets (R148 to R150) -/

/-- The state while a reset of cause `c` lasts: every item at its reset value, but for the Fault Record and the
counters `f`, the straps and the reset cause, which change when a reset ends, a request the requester side keeps on
offer, and the command queue (R19, R148 to R150; log 15, log 16). -/
def heldInReset (c : ResetCause) (f : Faults) (s : State) : State :=
  { State.reset with
    phase := .inReset c
    offered := s.offered
    faults := f
    mode := .operating (startMode s.straps)
    resume := startMode s.straps
    straps := s.straps
    resetCause := s.resetCause
    pending := s.pending }

/-- A reset ends: the straps are sampled, the cause recorded, the state becomes the start mode, and a request still
offered is a new offer (R19, R148, R149). -/
def leaveReset (c : ResetCause) (p : Straps) (s : State) : State :=
  bringEval { s with
    phase := .running
    mode := .operating (startMode p)
    resume := startMode p
    straps := p
    resetCause := c }

end Sys2Proof.Machine
end

