-- ==== Sys2Proof/Machine/Periods.lean ====
section
/-! DEFINITION. The Timebase and the Period Generators (chapter 4): the tick, what is due before the next one, an
expiry with its commit and its replenishments. -/

namespace Sys2Proof.Machine

/-! ## The tick (R59, R60) -/

/-- A generator after one tick: its countdown falls, or it is due to expire instead (R62; log 5). -/
def Generator.ticked (g : Generator) : Generator :=
  if g.remaining ≤ 1 then { g with expiring := true } else { g with remaining := g.remaining - 1 }

/-- The quiesce timer has reached 0 and QUIESCE_FORCED has not come yet (R156). -/
def quiesceDue (s : State) : Bool := s.mode == .quiescing && s.quiesceTimer == some 0

/-- An event of the last tick has not come yet: an expiry of a generator, a warning or an expiry of a held entry, a
response deadline, the end of the quiesce timer. The next tick waits for it (log 5). -/
def tickDue (s : State) : Bool :=
  s.gens.toList.any Generator.expiring || s.hold.any (fun e => e.agingDue || e.expiryDue) ||
    s.tags.toList.any TagEntry.deadlineDue || quiesceDue s

/-- The Timebase advances by one and every countdown falls by one (R59, R60, R62, R90, R107, R154). -/
def tick (s : State) : State :=
  { s with
    timebase := s.timebase + 1
    gens := mapVec (fun _ g => g.ticked) s.gens
    hold := s.hold.map HoldEntry.ticked
    tags := mapVec (fun _ e => e.ticked) s.tags
    quiesceTimer := s.quiesceTimer.map (· - 1) }

/-! ## An expiry (R62 to R64, R70, R71) -/

/-- A generator after its expiry: counted, a pending commit applied, reloaded with the live period (R62, R70). -/
def Generator.expired (g : Generator) : Generator :=
  let period := if g.commitPending then g.stagedPeriod else g.livePeriod
  { g with
    livePeriod := period
    remaining := period
    expiries := g.expiries + 1
    commitPending := false
    expiring := false }

/-- The PERIOD_SUMMARY record of a lane at its replenishment (R56). -/
def summaryRecord (l : LaneId) (g : Gen) (x : Lane) : RecordBody :=
  .periodSummary l g x.consumed x.balance x.overrun

/-- The replenishment of lane `l` at an expiry of generator `g` that carries commit pending or not (R53). -/
def replenish (g : Gen) (commit : Bool) (l : LaneId) (s : State) : State :=
  let s' := if s.lanes[l].live.summary then logRecord (summaryRecord l g s.lanes[l]) s else s
  bringOn (updateLane l (Lane.replenished commit) s')

/-- Every lane bound to `g` when the expiry reaches it is replenished, in ascending order (R53, R63). -/
def replenishBound (g : Gen) (commit : Bool) (s : State) : State :=
  (List.finRange 16).foldl (fun s l => if s.lanes[l].live.gen = g then replenish g commit l s else s) s

/-- The FIRST_IN_PERIOD triggers that name `g` are armed (R64). -/
def armTriggers (g : Gen) (s : State) : State :=
  { s with triggers := mapVec (fun _ t => t.armedBy g) s.triggers }

/-- The generator's own part of an expiry, with COMMIT_DONE when it applies a commit (R62, R70). -/
def expireGen (g : Gen) (s : State) : State :=
  let s' := updateGen g Generator.expired s
  if s.gens[g].commitPending then raiseCommitDone g s' else s'

/-- The expiry of generator `g`: its own state, its lanes under the commit it carries, its triggers (R63). -/
def expire (g : Gen) (s : State) : State :=
  armTriggers g (replenishBound g s.gens[g].commitPending (expireGen g s))

/-! ## COMMIT and CANCEL (R68, R69) -/

/-- Commit pending is set for each generator named (R68). -/
def commitGens (set : BitVec 4) (s : State) : State :=
  { s with gens := mapVec (fun i g => if set.getLsbD i then { g with commitPending := true } else g) s.gens }

/-- Commit pending is cleared for each generator named (R69). -/
def cancelGens (set : BitVec 4) (s : State) : State :=
  { s with gens := mapVec (fun i g => if set.getLsbD i then { g with commitPending := false } else g) s.gens }

/-- Some generator named has commit pending (R69). -/
def anyPending (set : BitVec 4) (s : State) : Bool :=
  (List.finRange 4).any (fun i => set.getLsbD i && s.gens[i].commitPending)

end Sys2Proof.Machine
end

