-- ==== Sys2Proof/Machine/Taking.lean ====
section
/-! DEFINITION. The taking of a request (section 1.4) with the Classifier (chapter 2): the checks of R7 to R12, and
what a disposition does (R13). -/

namespace Sys2Proof.Machine

/-! ## Classification (R24 to R32) -/

/-- The entry matches the request (R24). -/
def RuleEntry.admits (e : RuleEntry) (p : Passage) : Bool := e.enabled && e.pattern.admits p

/-- The matched entry: the enabled matching one of lowest index (R25). -/
def matchedRule (p : Passage) (s : State) : Option RuleId := (List.finRange 32).find? (fun n => s.rules[n].admits p)

/-- What the Classifier hands on (R26): lane, rule index, whether the class is screened, and the matched entry's log
refusals flag. -/
structure Classified where
  lane : Option LaneId
  rule : Option RuleId
  screened : Bool
  entryLogs : Bool
deriving DecidableEq, Repr

/-- The classification a matched entry gives (R27, R28, R29). -/
def RuleEntry.classify (n : RuleId) (e : RuleEntry) : Classified :=
  match e.action with
  | .forward => { lane := none, rule := some n, screened := false, entryLogs := e.logRefusals }
  | .govern => { lane := some e.lane, rule := some n, screened := false, entryLogs := e.logRefusals }
  | .refuse => { lane := none, rule := some n, screened := true, entryLogs := e.logRefusals }

/-- The classification of an unmatched request: the UNMATCHED strap's (R30). -/
def unmatched (s : State) : Classified :=
  { lane := none, rule := none, screened := s.straps.unmatched, entryLogs := false }

/-- BYPASS consults no table (R32). -/
def unclassified : Classified := { lane := none, rule := none, screened := false, entryLogs := false }

/-- The classification of a request (R25, R30). -/
def classify (p : Passage) (s : State) : Classified :=
  match matchedRule p s with
  | none => unmatched s
  | some n => s.rules[n].classify n

/-- The fourth and fifth checks (R10): BYPASS, or classification. -/
def classifyIn (m : Mode) (p : Passage) (s : State) : Classified :=
  match m with
  | .bypass => unclassified
  | .monitor => classify p s
  | .govern => classify p s

/-- The request with the lane and rule index of its classification (R33). -/
def Passage.classified (p : Passage) (c : Classified) : Passage := { p with lane := c.lane, rule := c.rule }

/-! ## The intended disposition (R10) -/

/-- The intended disposition that checks 4 to 7 give. -/
inductive Intent where
  | forward
  | hold (c : Cause)
  | refuse (st : Status)
deriving DecidableEq, Repr

/-- The conformance test at taking (R39): the intended disposition, by credit, concurrency and policy. -/
def Lane.intent (l : Lane) : Intent :=
  if l.hasCredit then (if l.hasConcurrency then .forward else .hold .concurrency)
  else
    match l.live.policy with
    | .hold => .hold .budget
    | .refuse => .refuse .refusedRate
    | .mark => if l.hasConcurrency then .forward else .hold .concurrency

/-- The lane that check 6 tests: that of a governed request in GOVERN (R39, R45). -/
def testedLane (m : Mode) (c : Classified) : Option LaneId :=
  match m with
  | .bypass => none
  | .monitor => none
  | .govern => c.lane

/-- A conformance test made by this evaluation finds the lane without credit (R51). -/
def testShort (m : Mode) (c : Classified) (s : State) : Bool :=
  match testedLane m c with
  | none => false
  | some l => !s.lanes[l].hasCredit

/-- Checks 5 and 6: a screened request is refused in GOVERN and forwarded as a screen mark in MONITOR; a governed one
meets the lane test in GOVERN (R29, R31, R39). -/
def policyIntent (m : Mode) (c : Classified) (s : State) : Intent :=
  if c.screened && m == .govern then .refuse .refusedScreen
  else
    match testedLane m c with
    | none => .forward
    | some l => s.lanes[l].intent

/-- Check 7: an intended forward of a requester with held entries is a hold with cause ORDER (R80). -/
def orderIntent (p : Passage) (s : State) (i : Intent) : Intent :=
  match i with
  | .forward => if hasHeld p.requester s then .hold .order else .forward
  | .hold c => .hold c
  | .refuse st => .refuse st

/-! ## The decision of an evaluation (R6 to R12) -/

/-- What a taken request carries into its disposition: itself, whether it is a screen mark, whether its lane test
found no credit, and its matched entry's log refusals flag. -/
structure Judged where
  req : Passage
  screenMark : Bool
  short : Bool
  entryLogs : Bool
deriving DecidableEq, Repr

/-- What one evaluation gives: a stall, or the disposition the request is taken with (R6, R13). -/
inductive Decision where
  | stall
  | malformed
  | clash (p : Passage)
  | forward (j : Judged) (t : DownTag)
  | hold (j : Judged) (c : Cause)
  | refuse (j : Judged) (st : Status)
deriving DecidableEq, Repr

/-- A refusal needs a Local Response Queue slot; without one the request stalls (R12). -/
def ifSlot (s : State) (d : Decision) : Decision := if slotFree s then d else .stall

/-- The ninth check for a hold: room, or else the full action (R12, R95). -/
def holdOrFull (j : Judged) (c : Cause) (s : State) : Decision :=
  if hasRoom j.req s then .hold j c
  else
    match s.limits.fullAction with
    | .stall => .stall
    | .refuse => ifSlot s (.refuse j .refusedFull)

/-- The eighth check: a FREE tag, and the Forwarding Arbiter's grant to the arrival, which needs a free channel and no
eligible held entry (R11, R85). -/
def forwardOrWait (j : Judged) (s : State) : Decision :=
  match lowestFree s with
  | none => holdOrFull j .tags s
  | some t => if s.downRequest.isNone && !heldEligible s then .forward j t else .stall

/-- Checks 8 and 9, after the intended disposition (R11, R12). -/
def settle (j : Judged) (i : Intent) (s : State) : Decision :=
  match i with
  | .forward => forwardOrWait j s
  | .hold c => holdOrFull j c s
  | .refuse st => ifSlot s (.refuse j st)

/-- What checks 4 to 6 hand on to the disposition. -/
def judged (m : Mode) (p : Passage) (c : Classified) (s : State) : Judged :=
  { req := p.classified c, screenMark := c.screened, short := testShort m c s, entryLogs := c.entryLogs }

/-- Checks 4 to 9 for a well-formed request whose tag does not clash, in operating mode `m`. -/
def evaluateIn (m : Mode) (p : Passage) (s : State) : Decision :=
  let c := classifyIn m p s
  settle (judged m p c s) (orderIntent p s (policyIntent m c s)) s

/-- One evaluation of an offered request: the checks of R7 to R12 in their order. -/
def evaluate (r : Request) (s : State) : Decision :=
  match s.mode with
  | .operating m =>
    match wellFormedRequest r with
    | none => ifSlot s .malformed
    | some p => if clashes p.tag s then ifSlot s (.clash p) else evaluateIn m p s
  | .quiescing => .stall
  | .quiesced => .stall
  | .restarting => .stall

/-! ## Dispositions (R13) -/

/-- The request fields of a record of an offered request, codes as carried (R182). -/
def requestRecord (r : Request) : RecordRequest :=
  { requester := r.requester, tag := r.tag, kind := r.kind, address := r.address, length := r.length }

/-- The details of MALFORMED and TAG_CLASH, codes as carried (R144). -/
def requestDetails (r : Request) : FaultDetails :=
  { requester := some r.requester, tag := some r.tag, downTag := none, address := some r.address, lane := none,
    codes := some (r.kind, r.length) }

/-- The details of HOLD_OVERFLOW (R144). -/
def Passage.overflowDetails (p : Passage) : FaultDetails :=
  { requester := some p.requester, tag := some p.tag, downTag := none, address := some p.address, lane := p.lane,
    codes := some (p.kind.code, BitVec.ofNat 5 p.length) }

/-- The REFUSAL record of a refusal at taking, when `logged` calls for it (R125). -/
def logRefusal (logged : Bool) (r : RecordRequest) (lane : Option LaneId) (rule : Option RuleId) (st : Status)
    (s : State) : State :=
  if logged then logRecord (.refusal r lane rule st .taking) s else s

/-- The SCREEN_MARK record of a screen mark (R126). -/
def logScreenMark (j : Judged) (shown : Shown) (s : State) : State :=
  if j.screenMark then logRecord (.screenMark j.req.record j.req.rule shown) s else s

/-- A malformed request is taken and refused (R8): no trigger is evaluated. -/
def takeMalformed (r : Request) (s : State) : State :=
  queueLocal r.tag .refusedProtocol
    (logRefusal s.limits.logRefusals (requestRecord r) none none .refusedProtocol
      (countFault .malformed (requestDetails r) s))

/-- A request whose upstream tag clashes is taken and refused (R9). -/
def takeClash (r : Request) (p : Passage) (s : State) : State :=
  queueLocal r.tag .refusedProtocol
    (logRefusal s.limits.logRefusals (requestRecord r) none none .refusedProtocol
      (evaluateTriggers p (.refused .refusedProtocol)
        (countFault .tagClash (requestDetails r) s)))

/-- The disposition a TRIGGER record shows for a forward (R119). -/
def shownForward (j : Judged) (s : State) : Shown :=
  if j.screenMark then .forwardedScreenMark else if isMark j.req s then .forwardedMark else .forwarded

/-- A request is taken as a forward with tag `t` (R13). -/
def takeForward (j : Judged) (t : DownTag) (s : State) : State :=
  grant j.req t
    (noteShort j.req.lane j.short
      (logScreenMark j .forwarded
        (evaluateTriggers j.req (shownForward j s) s)))

/-- A request is taken as a hold with cause `c` (R13, R79). -/
def takeHold (j : Judged) (c : Cause) (s : State) : State :=
  let s' := countHold j.req.lane
    (noteShort j.req.lane j.short
      (logScreenMark j (.held c)
        (evaluateTriggers j.req (.held c) s)))
  bringScan { s' with hold := s'.hold ++ [heldEntry j.req c s'] }

/-- The REFUSAL record of a refusal with status `st` is called for: a matched entry's own flag counts for
REFUSED_SCREEN alone (R125). -/
def refusalLogged (j : Judged) (st : Status) (s : State) : Bool :=
  s.limits.logRefusals || (st == .refusedScreen && j.entryLogs)

/-- HOLD_OVERFLOW is counted for a REFUSED_FULL (R95). -/
def noteOverflow (j : Judged) (st : Status) (s : State) : State :=
  if st = .refusedFull then countFault .holdOverflow j.req.overflowDetails s else s

/-- A SCREEN_MARK record is due for this refusal: a screen mark refused for want of room (R126). -/
def screenRefused (j : Judged) (st : Status) : Bool := j.screenMark && st == .refusedFull

/-- A request is taken as a refusal with status `st` (R13). -/
def takeRefuse (j : Judged) (st : Status) (s : State) : State :=
  queueLocal j.req.tag st
    (countRefusal j.req.lane
      (noteShort j.req.lane j.short
        (logRefusal (refusalLogged j st s) j.req.record j.req.lane j.req.rule st
          (logScreenMark { j with screenMark := screenRefused j st } (.refused st)
            (evaluateTriggers j.req (.refused st)
              (noteOverflow j st s))))))

/-- The effect of an evaluation's decision on the offered request `r`: a stall leaves it on offer and leaves no other
trace; a taking frees the channel for the next record (R6, R13). -/
def dispose (r : Request) (d : Decision) (s : State) : State :=
  match d with
  | .stall => { s with offered := some r }
  | .malformed => takeMalformed r { s with offered := none }
  | .clash p => takeClash r p { s with offered := none }
  | .forward j t => takeForward j t { s with offered := none }
  | .hold j c => takeHold j c { s with offered := none }
  | .refuse j st => takeRefuse j st { s with offered := none }

/-- The record at the head of the upstream request channel: the one that stands offered and not taken, or else the
one the requester side offers now (R1; log 6). -/
def headRequest (r : Request) (s : State) : Request := s.offered.getD r

/-- The record at the head is to be evaluated: it is first offered now, or something its evaluation depends on has
changed since it was last evaluated (R6; log 4). -/
def evaluationDue (s : State) : Bool := s.offered.isNone || s.evalDue

/-- One evaluation of the record at the head of the upstream request channel, and its disposition; a stalled record
stays offered until an evaluation is brought on (R6). -/
def evaluateHead (r : Request) (s : State) : State :=
  if evaluationDue s then dispose (headRequest r s) (evaluate (headRequest r s) s) { s with evalDue := false } else s

end Sys2Proof.Machine
end

