-- ==== Sys2Proof/Machine/Formats.lean ====
section
/-! DEFINITION. The byte layouts of chapter 11: what each object's read payload holds, how a capture record is
encoded, and what a written payload decodes to. A field that is absent reads 00h in every byte (R179). -/

namespace Sys2Proof.Machine

/-! ## Codes (sections 11.2 and 11.4) -/

/-- Management status codes. -/
def MgmtStatus.code : MgmtStatus → Byte
  | .ok => 0x00
  | .badCheck => 0x01
  | .badClass => 0x02
  | .badLength => 0x03
  | .badValue => 0x04
  | .wrongMode => 0x05
  | .busy => 0x06
  | .notCleared => 0x07
  | .notPending => 0x08

/-- Upstream status codes. -/
def Status.code : Status → Byte
  | .okay => 0
  | .memoryError => 1
  | .refusedScreen => 2
  | .refusedRate => 3
  | .refusedFull => 4
  | .refusedProtocol => 5
  | .expired => 6
  | .timedOut => 7
  | .withdrawn => 8

/-- Resume mode codes; the operating states share them. -/
def Mode.code : Mode → Byte
  | .bypass => 0x00
  | .monitor => 0x01
  | .govern => 0x02

/-- State codes. -/
def ModeState.code : ModeState → Byte
  | .operating m => m.code
  | .quiescing => 0x03
  | .quiesced => 0x04
  | .restarting => 0x05

/-- Reset cause codes (section 11.3, IDENTITY). -/
def ResetCause.code : ResetCause → Byte
  | .powerOn => 0x00
  | .pin => 0x01

/-- Rule action codes. -/
def Action.code : Action → Byte
  | .forward => 0x00
  | .govern => 0x01
  | .refuse => 0x02

/-- The action a code names. -/
def actionOfCode (b : Byte) : Option Action :=
  if b = 0 then some .forward else if b = 1 then some .govern else if b = 2 then some .refuse else none

/-- Lane kind codes. -/
def LaneKind.code : LaneKind → Byte
  | .metered => 0x00
  | .openLane => 0x01
  | .closed => 0x02

/-- The lane kind a code names. -/
def laneKindOfCode (b : Byte) : Option LaneKind :=
  if b = 0 then some .metered else if b = 1 then some .openLane else if b = 2 then some .closed else none

/-- Exhaustion policy codes. -/
def Policy.code : Policy → Byte
  | .hold => 0x00
  | .refuse => 0x01
  | .mark => 0x02

/-- The exhaustion policy a code names. -/
def policyOfCode (b : Byte) : Option Policy :=
  if b = 0 then some .hold else if b = 1 then some .refuse else if b = 2 then some .mark else none

/-- The period generator a code names. -/
def genOfCode (b : Byte) : Option Gen := if h : b.toNat < 4 then some ⟨b.toNat, h⟩ else none

/-- The lane a code names. -/
def laneOfCode (b : Byte) : Option LaneId := if h : b.toNat < 16 then some ⟨b.toNat, h⟩ else none

/-- Trigger mode codes. -/
def TriggerMode.code : TriggerMode → Byte
  | .once => 0x00
  | .every => 0x01
  | .firstInPeriod => 0x02

/-- The trigger mode a code names. -/
def triggerModeOfCode (b : Byte) : Option TriggerMode :=
  if b = 0 then some .once else if b = 1 then some .every else if b = 2 then some .firstInPeriod else none

/-- Expiry action codes. -/
def ExpiryAction.code : ExpiryAction → Byte
  | .force => 0x00
  | .refuse => 0x01

/-- The expiry action a code names. -/
def expiryActionOfCode (b : Byte) : Option ExpiryAction :=
  if b = 0 then some .force else if b = 1 then some .refuse else none

/-- Full action codes. -/
def FullAction.code : FullAction → Byte
  | .stall => 0x00
  | .refuse => 0x01

/-- The full action a code names. -/
def fullActionOfCode (b : Byte) : Option FullAction :=
  if b = 0 then some .stall else if b = 1 then some .refuse else none

/-- Log policy codes. -/
def LogPolicy.code : LogPolicy → Byte
  | .stop => 0x00
  | .wrap => 0x01

/-- The log policy a code names. -/
def logPolicyOfCode (b : Byte) : Option LogPolicy :=
  if b = 0 then some .stop else if b = 1 then some .wrap else none

/-- The codes of a byte that says off or on, masked or enabled (sections 11.3, LIMITS and MASKS). -/
def switchOfCode (b : Byte) : Option Bool := if b = 0 then some false else if b = 1 then some true else none

/-- A yes/no item as a code byte. -/
def switchCode (b : Bool) : Byte := if b then 1 else 0

/-- Hold cause codes. -/
def Cause.code : Cause → Byte
  | .budget => 0x00
  | .concurrency => 0x01
  | .order => 0x02
  | .tags => 0x03

/-- The refusal pending byte of a HOLD read: 00h absent, else the upstream status code. -/
def refusalCode (r : Option HoldRefusal) : Byte :=
  match r with
  | none => 0
  | some x => x.status.code

/-! ## Bytes (R179) -/

/-- A flag byte with the given items from bit 0 up. -/
def flagByte (bs : List Bool) : Byte := BitVec.ofNat 8 (bs.foldr (fun b n => n * 2 + b.toNat) 0)

/-- One byte of a number. -/
def byteOf (n : Nat) : Byte := BitVec.ofNat 8 n

/-- A kind code byte (R182). -/
def kindByte (k : BitVec 2) : Byte := k.setWidth 8

/-- A lane byte, 00h when absent. -/
def laneByte (l : Option LaneId) : Byte :=
  match l with
  | none => 0
  | some x => byteOf x

/-- A rule index byte, 00h when absent. -/
def ruleByte (r : Option RuleId) : Byte :=
  match r with
  | none => 0
  | some x => byteOf x

/-- A signed 32-bit number, two's complement (R179). -/
def signedBytes (n : Int) : List Byte := beBytes 4 (BitVec.ofInt 32 n).toNat

/-! ## RULE and TRIGGER -/

/-- The kinds set of a kinds byte: bits 0 to 2 (R180). -/
def kindsOf (b : Byte) : BitVec 3 := b.setWidth 3

/-- A pattern may be written: pages in order and in range, some kind (R21, R117). -/
def Pattern.legal (x : Pattern) : Bool :=
  decide (x.base ≤ x.limit) && decide (x.limit ≤ Config.maxPage) && x.kinds != 0

/-- The payload of a RULE read. -/
def encodeRule (e : RuleEntry) : List Byte :=
  [flagByte [e.enabled, e.logRefusals]] ++ beBytes 4 e.pattern.base ++ beBytes 4 e.pattern.limit ++
    [e.pattern.value, e.pattern.mask, e.pattern.kinds.setWidth 8, e.action.code, byteOf e.lane]

/-- The pattern a payload spells. -/
def patternOf (base limit : List Byte) (value mask kinds : Byte) : Pattern :=
  { base := beNat base, limit := beNat limit, value := value, mask := mask, kinds := kindsOf kinds }

/-- The entry a RULE write carries, if R21 accepts it. -/
def decodeRule : List Byte → Option RuleEntry
  | [f, b0, b1, b2, b3, l0, l1, l2, l3, v, m, k, a, n] =>
    match actionOfCode a, laneOfCode n with
    | some act, some lane =>
      let x := patternOf [b0, b1, b2, b3] [l0, l1, l2, l3] v m k
      if x.legal then
        some { enabled := f.getLsbD 0, pattern := x, action := act, lane := lane, logRefusals := f.getLsbD 1 }
      else none
    | _, _ => none
  | _ => none

/-- The payload of a TRIGGER read. -/
def encodeTrigger (t : Trigger) : List Byte :=
  [flagByte [t.enabled, false, false, false, false, false, false, t.armed], t.mode.code, byteOf t.gen] ++
    beBytes 4 t.pattern.base ++ beBytes 4 t.pattern.limit ++
    [t.pattern.value, t.pattern.mask, t.pattern.kinds.setWidth 8]

/-- The trigger a TRIGGER write leaves, if R117 accepts it: armed by its enabled bit, the armed bit ignored (R180). -/
def decodeTrigger : List Byte → Option Trigger
  | [f, md, g, b0, b1, b2, b3, l0, l1, l2, l3, v, m, k] =>
    match triggerModeOfCode md, genOfCode g with
    | some mode, some gen =>
      let x := patternOf [b0, b1, b2, b3] [l0, l1, l2, l3] v m k
      if x.legal then
        some { enabled := f.getLsbD 0, mode := mode, gen := gen, pattern := x, armed := f.getLsbD 0 }
      else none
    | _, _ => none
  | _ => none

/-! ## Lanes -/

/-- A watermark or a concurrency limit is OFF or UNLIMITED, or lies from 1 to `top` (R34). -/
def optionWithin (top : Nat) (o : Option Nat) : Bool :=
  match o with
  | none => true
  | some n => decide (1 ≤ n) && decide (n ≤ top)

/-- A configured record R66 accepts. -/
def LaneConfig.legal (c : LaneConfig) : Bool :=
  decide (Config.minBudget ≤ c.budget) && decide (c.budget ≤ Config.maxBudget) && optionWithin c.budget c.watermark &&
    optionWithin Config.maxConcurrency c.concurrency

/-- A number of which 0 says absent: OFF, UNLIMITED. -/
def zeroIsNone (n : Nat) : Option Nat := if n = 0 then none else some n

/-- The configured record, offsets 0 to 10. -/
def encodeLane (c : LaneConfig) : List Byte :=
  [c.kind.code] ++ beBytes 3 c.budget ++ beBytes 3 (c.watermark.getD 0) ++
    [byteOf (c.concurrency.getD 0), c.policy.code, byteOf c.gen, flagByte [c.summary]]

/-- The staged record a LANE_STAGED write carries, if R66 accepts it. -/
def decodeLane : List Byte → Option LaneConfig
  | [k, b0, b1, b2, w0, w1, w2, q, p, g, f] =>
    match laneKindOfCode k, policyOfCode p, genOfCode g with
    | some kind, some policy, some gen =>
      let c : LaneConfig :=
        { kind := kind, budget := beNat [b0, b1, b2], watermark := zeroIsNone (beNat [w0, w1, w2]),
          concurrency := zeroIsNone q.toNat, policy := policy, gen := gen, summary := f.getLsbD 0 }
      if c.legal then some c else none
    | _, _, _ => none
  | _ => none

/-- The payload of a LANE_LIVE read. -/
def encodeLaneLive (l : Lane) : List Byte :=
  encodeLane l.live ++ signedBytes l.balance ++ beBytes 4 l.consumed ++ beBytes 4 l.overrun ++
    [flagByte [l.watermarkReached, l.exhausted], byteOf l.liveCount] ++ beBytes 4 l.lastConsumed ++
    beBytes 6 l.totalForwarded.toNat ++ beBytes 4 l.totalHolds ++ beBytes 4 l.totalRefusals ++
    beBytes 4 l.totalOverrun

/-! ## LIMITS -/

/-- Settings R174 accepts. -/
def Limits.legal (x : Limits) : Bool :=
  decide (1 ≤ x.holdLimit) && decide (x.holdLimit ≤ 65535) && optionWithin 65535 x.responseLimit &&
    decide (1 ≤ x.quiesceLimit) && decide (x.quiesceLimit ≤ 65535) && decide (1 ≤ x.logThreshold) &&
    decide (x.logThreshold ≤ Config.logCapacity) && decide (1 ≤ x.orphanAlarm) && decide (x.orphanAlarm ≤ 127)

/-- The response limit's form byte: 00h number, 01h OFF. -/
def formCode (o : Option Nat) : Byte :=
  match o with
  | none => 1
  | some _ => 0

/-- The payload of a LIMITS read (R175); an OFF limit's value bytes read 0000h (R180). -/
def encodeLimits (x : Limits) : List Byte :=
  beBytes 2 x.holdLimit ++ [x.expiryAction.code, formCode x.responseLimit] ++ beBytes 2 (x.responseLimit.getD 0) ++
    beBytes 2 x.quiesceLimit ++
    [x.fullAction.code, x.logPolicy.code, byteOf x.logThreshold, switchCode x.logRefusals, byteOf x.orphanAlarm]

/-- The response limit that a form code and two value bytes spell; a form code outside its table spells none (R180). -/
def responseLimitOf (form : Byte) (value : List Byte) : Option (Option Nat) :=
  if form = 0 then some (some (beNat value)) else if form = 1 then some none else none

/-- The settings a LIMITS write carries, if R174 accepts all nine. -/
def decodeLimits : List Byte → Option Limits
  | [h0, h1, ea, rf, r0, r1, q0, q1, fa, lp, lt, lr, oa] =>
    match expiryActionOfCode ea, responseLimitOf rf [r0, r1], fullActionOfCode fa, logPolicyOfCode lp, switchOfCode lr with
    | some expiry, some response, some full, some policy, some refusals =>
      let x : Limits :=
        { holdLimit := beNat [h0, h1], expiryAction := expiry, responseLimit := response,
          quiesceLimit := beNat [q0, q1], fullAction := full, logPolicy := policy, logThreshold := lt.toNat,
          logRefusals := refusals, orphanAlarm := oa.toNat }
      if x.legal then some x else none
    | _, _, _, _, _ => none
  | _ => none

/-! ## PERIOD, MASKS and the clear list -/

/-- The payload of a PERIOD read (R75). -/
def encodePeriod (g : Generator) : List Byte :=
  beBytes 3 g.livePeriod ++ beBytes 3 g.stagedPeriod ++ beBytes 3 g.remaining ++ beBytes 2 g.expiries.toNat ++
    [flagByte [g.commitPending]]

/-- The staged period a PERIOD write carries, if R67 accepts it. -/
def decodePeriod (bs : List Byte) : Option Nat :=
  if 1 ≤ beNat bs ∧ beNat bs ≤ Config.maxPeriod then some (beNat bs) else none

/-- The payload of a MASKS read (R136). -/
def encodeMasks (e : Events) : List Byte := e.flags.toList.map (fun x => switchCode x.enabled)

/-- The masks a MASKS write carries, if every code is one of masked and enabled (R136). -/
def decodeMasks (bs : List Byte) : Option (List Bool) := bs.mapM switchOfCode

/-- The pairs of flag code and raise count that a CLEAR carries (R139). -/
def decodePairs : List Byte → List (Byte × Byte)
  | a :: b :: rest => (a, b) :: decodePairs rest
  | _ => []

/-- A clear list R139 accepts: flag codes of the thirteen, none named twice. -/
def pairsLegal (ps : List (Byte × Byte)) : Bool :=
  ps.all (fun p => decide (p.1.toNat < 13)) && decide (ps.map Prod.fst).Nodup

/-- A bitmap of the event flags that satisfy `f`, bit n for flag code n. -/
def flagMap (f : Fin 13 → Bool) : Nat := (List.finRange 13).foldr (fun i n => n + if f i then 2 ^ i.val else 0) 0

/-- The payload of an EVENTS read (R138). -/
def encodeEvents (e : Events) : List Byte :=
  beBytes 2 (flagMap (fun i => e.flags[i].set)) ++ e.flags.toList.map EventFlag.raises ++
    beBytes 2 e.watermarkLanes.toNat ++ beBytes 2 e.exhaustedLanes.toNat ++ [e.commitGens.setWidth 8]

/-! ## FAULT -/

/-- The fault kind codes 01h to 08h. -/
def faultCode (k : FaultKind) : Byte := byteOf (k.code + 1)

/-- The Fault Record, offsets 0 to 16; an empty one reads 00h throughout. -/
def encodeFaultRecord (r : Option FaultRecord) : List Byte :=
  match r with
  | none => List.replicate 17 0
  | some x =>
    let d := x.details
    [faultCode x.kind, flagByte [d.requester.isSome, d.tag.isSome, d.downTag.isSome, d.address.isSome,
        d.lane.isSome, d.codes.isSome]] ++
      beBytes 4 x.timestamp.toNat ++
      [d.requester.getD 0, d.tag.getD 0, byteOf ((d.downTag.map Fin.val).getD 0)] ++
      beBytes 5 (d.address.getD 0).toNat ++
      [laneByte d.lane, kindByte ((d.codes.map Prod.fst).getD 0), ((d.codes.map Prod.snd).getD 0).setWidth 8]

/-- The payload of a FAULT read (R146). -/
def encodeFaults (f : Faults) : List Byte :=
  encodeFaultRecord f.record ++ f.counts.toList.flatMap (fun n => beBytes 2 n)

/-! ## IDENTITY, MODE, HOLD and TAGS -/

/-- The payload of an IDENTITY read (R173). -/
def encodeIdentity (s : State) : List Byte :=
  beBytes 2 Config.vendorCode ++ beBytes 2 Config.partNumber ++
    [byteOf Config.revision, byteOf s.straps.channel, byteOf (s.straps.start + 4 * s.straps.unmatched.toNat),
      s.resetCause.code]

/-- The entry part of a HOLD read, offsets 3 to 24; 00h throughout when no entry stands at the position (R96). -/
def encodeHeld (o : Option HoldEntry) : List Byte :=
  match o with
  | none => List.replicate 22 0
  | some e =>
    [flagByte [true, e.req.lane.isSome, e.req.rule.isSome, e.aged, e.forced], e.req.requester, e.req.tag,
        kindByte e.req.kind.code] ++
      beBytes 5 e.req.address.toNat ++
      [byteOf e.req.length, laneByte e.req.lane, ruleByte e.req.rule, e.cause.code] ++
      beBytes 4 e.takenAt.toNat ++ beBytes 2 e.holdLimit ++ beBytes 2 e.remaining ++ [refusalCode e.refusal]

/-- The payload of a HOLD read at position `n` (R96). -/
def encodeHold (n : Nat) (s : State) : List Byte :=
  [byteOf s.hold.length] ++ beBytes 2 (usedBeats s) ++ encodeHeld s.hold[n]?

/-- The fields of a LIVE or ORPHANED entry in a TAGS read, offsets 4 to 21. -/
def encodeFlight (f : Flight) : List Byte :=
  [flagByte [f.lane.isSome, f.rule.isSome, f.remaining.isSome, f.timeoutPending], f.tag, f.requester,
      kindByte f.kind.code] ++
    beBytes 5 f.address.toNat ++ [byteOf f.length, laneByte f.lane, ruleByte f.rule] ++
    beBytes 4 f.forwardedAt.toNat ++ beBytes 2 (f.remaining.getD 0)

/-- The entry part of a TAGS read, offsets 3 to 21 (R115). -/
def encodeTag (e : TagEntry) : List Byte :=
  match e with
  | .free => List.replicate 19 0
  | .live f => 0x01 :: encodeFlight f
  | .orphaned f => 0x02 :: encodeFlight f

/-- The payload of a TAGS read of entry `e` (R115). -/
def encodeTags (e : TagEntry) (s : State) : List Byte :=
  [byteOf (freeCount s), byteOf (liveTotal s), byteOf (orphanCount s)] ++ encodeTag e

/-! ## Capture records (section 11.5) -/

/-- The disposition code and the byte after it: the cause when HELD, the status when REFUSED, 00h otherwise. -/
def encodeShown (x : Shown) : List Byte :=
  match x with
  | .forwarded => [0x00, 0]
  | .forwardedMark => [0x01, 0]
  | .forwardedScreenMark => [0x02, 0]
  | .held c => [0x03, c.code]
  | .refused st => [0x04, st.code]

/-- Offsets 6 to 18 of a record with request fields: source, presence, request fields, lane, rule index. -/
def encodeHead (source : Byte) (r : RecordRequest) (lane : Option LaneId) (rule : Option RuleId) : List Byte :=
  [source, flagByte [true, lane.isSome, rule.isSome], r.requester, r.tag, kindByte r.kind] ++
    beBytes 5 r.address.toNat ++ [r.length.setWidth 8, laneByte lane, ruleByte rule]

/-- Point codes of a REFUSAL record. -/
def RefusalPoint.code : RefusalPoint → Byte
  | .taking => 0x00
  | .release => 0x01

/-- The status sent of a HOLD_EXPIRY record: 06h EXPIRED, 80h forced. -/
def ExpirySent.code : ExpirySent → Byte
  | .forced => 0x80
  | .expired => 0x06

/-- Offsets 6 to 25 of a record, before the fill of unused source bytes. -/
def encodeBody (b : RecordBody) : List Byte :=
  match b with
  | .trigger r lane rule set shown => encodeHead 0x01 r lane rule ++ [set] ++ encodeShown shown
  | .refusal r lane rule st point => encodeHead 0x02 r lane rule ++ [st.code, point.code]
  | .screenMark r rule shown => encodeHead 0x03 r none rule ++ encodeShown shown
  | .holdExpiry r lane rule sent cause wait => encodeHead 0x04 r lane rule ++ [sent.code, cause.code] ++ beBytes 4 wait
  | .timeout r lane rule tag => encodeHead 0x05 r lane rule ++ [byteOf tag]
  | .orphan r lane rule tag => encodeHead 0x06 r lane rule ++ [byteOf tag]
  | .periodSummary lane gen consumed balance overrun =>
    [0x07, flagByte [false, true], byteOf gen] ++ beBytes 4 consumed ++ signedBytes balance ++ [byteOf lane, 0] ++
      beBytes 4 overrun

/-- Bytes brought to length `n` with 00h (R179). -/
def padTo (n : Nat) (bs : List Byte) : List Byte := bs ++ List.replicate (n - bs.length) 0

/-- The 26 bytes of a capture record. -/
def encodeRecord (r : CaptureRecord) : List Byte :=
  padTo 26 (beBytes 2 r.seq.toNat ++ beBytes 4 r.timestamp.toNat ++ encodeBody r.body)

/-- A record slot of a LOG reply: 00h in all 26 bytes when it holds no record (R181). -/
def encodeSlot (o : Option CaptureRecord) : List Byte :=
  match o with
  | none => List.replicate 26 0
  | some r => encodeRecord r

/-- The payload of a LOG read that asks for `n` records (R131, R181). -/
def encodeLog (n : Nat) (l : CaptureLog) : List Byte :=
  let out := l.records.take n
  [byteOf out.length, byteOf (l.records.length - out.length)] ++ beBytes 2 l.lost ++ encodeSlot out[0]? ++
    encodeSlot out[1]?

end Sys2Proof.Machine
end

