-- ==== Sys2Proof/Machine/Port.lean ====
section
/-! DEFINITION. The Management Port (chapter 10): what each object class's owning rule answers, the judgement of a
frame at its check byte, and the port's own states, byte by byte. -/

namespace Sys2Proof.Machine

/-! ## The owning rules of writes -/

/-- A write of MODE with request code `b` (R151). -/
def writeMode (b : Byte) (s : State) : Answer :=
  if b = 0 then requestMode .bypass s
  else if b = 1 then requestMode .monitor s
  else if b = 2 then requestMode .govern s
  else if b = 3 then requestQuiesce s
  else if b = 4 then requestResume s
  else if b = 5 then requestRestart s
  else Answer.refuse .badValue s

/-- A write of LIMITS (R174). -/
def writeLimits (bs : List Byte) (s : State) : Answer :=
  match decodeLimits bs with
  | none => Answer.refuse .badValue s
  | some x => Answer.ok (bringEval { s with limits := x })

/-- A write of RULE[n] (R21). -/
def writeRule (n : RuleId) (bs : List Byte) (s : State) : Answer :=
  match decodeRule bs with
  | none => Answer.refuse .badValue s
  | some e => Answer.ok (bringEval { s with rules := s.rules.set n e })

/-- A write of LANE_STAGED[l] (R66). -/
def writeStaged (l : LaneId) (bs : List Byte) (s : State) : Answer :=
  match decodeLane bs with
  | none => Answer.refuse .badValue s
  | some c => Answer.ok (updateLane l (fun x => { x with staged := c }) s)

/-- A write of LANE_LIVE[l]: its five statistics become 0 (R57). -/
def writeLive (l : LaneId) (s : State) : Answer := Answer.ok (updateLane l Lane.cleared s)

/-- A write of PERIOD[g] (R67). -/
def writePeriod (g : Gen) (bs : List Byte) (s : State) : Answer :=
  match decodePeriod bs with
  | none => Answer.refuse .badValue s
  | some p => Answer.ok (updateGen g (fun x => { x with stagedPeriod := p }) s)

/-- COMMIT of a set of generators (R68). -/
def requestCommit (set : BitVec 4) (s : State) : Answer :=
  if set = 0 then Answer.refuse .badValue s else Answer.ok (commitGens set s)

/-- CANCEL of a set of generators (R69). -/
def requestCancel (set : BitVec 4) (s : State) : Answer :=
  if set = 0 then Answer.refuse .badValue s
  else if anyPending set s then Answer.ok (cancelGens set s)
  else Answer.refuse .notPending s

/-- A write of COMMIT: operation `op`, and a PG set in the low four bits of `b` (R68, R69, R176, R180). -/
def writeCommit (op b : Byte) (s : State) : Answer :=
  if op = 1 then requestCommit (b.setWidth 4) s
  else if op = 2 then requestCancel (b.setWidth 4) s
  else Answer.refuse .badValue s

/-- A write of TRIGGER[t] (R117). -/
def writeTrigger (t : TriggerId) (bs : List Byte) (s : State) : Answer :=
  match decodeTrigger bs with
  | none => Answer.refuse .badValue s
  | some x => Answer.ok { s with triggers := s.triggers.set t x }

/-- The count a clear list gives for a flag it names. -/
def namedCount (ps : List (Byte × Byte)) (i : Fin 13) : Option Byte :=
  (ps.find? (fun p => p.1.toNat == i.val)).map Prod.snd

/-- The flag is named, set, and the count given is its raise count: it is cleared (R139). -/
def clears (ps : List (Byte × Byte)) (i : Fin 13) (e : EventFlag) : Bool :=
  e.set && namedCount ps i == some e.raises

/-- The flag is named, set, and the count given is another: it is listed as not cleared (R139). -/
def keeps (ps : List (Byte × Byte)) (i : Fin 13) (e : EventFlag) : Bool :=
  e.set && (namedCount ps i).isSome && namedCount ps i != some e.raises

/-- The Event Unit after a CLEAR with list `ps` (R135, R139). -/
def Events.cleared (ps : List (Byte × Byte)) (e : Events) : Events :=
  { flags := mapVec (fun i x => if clears ps i x then { x with set := false } else x) e.flags
    watermarkLanes := if clears ps Flag.watermark.code e.flags[Flag.watermark.code] then 0 else e.watermarkLanes
    exhaustedLanes := if clears ps Flag.exhausted.code e.flags[Flag.exhausted.code] then 0 else e.exhaustedLanes
    commitGens := if clears ps Flag.commitDone.code e.flags[Flag.commitDone.code] then 0 else e.commitGens }

/-- The list a CLEAR returns: the thirteen raise counts, and the bitmap of the flags named and not cleared (R172,
section 11.3). -/
def clearReply (ps : List (Byte × Byte)) (e : Events) : List Byte :=
  e.flags.toList.map EventFlag.raises ++ beBytes 2 (flagMap (fun i => keeps ps i e.flags[i]))

/-- Some flag is listed as not cleared (R139). -/
def anyKept (ps : List (Byte × Byte)) (e : Events) : Bool := (List.finRange 13).any (fun i => keeps ps i e.flags[i])

/-- A CLEAR with an accepted list (R139). -/
def clearFlags (ps : List (Byte × Byte)) (s : State) : Answer :=
  { state := { s with events := s.events.cleared ps }
    status := if anyKept ps s.events then .notCleared else .ok
    payload := clearReply ps s.events }

/-- A write of EVENTS (R139). -/
def writeEvents (bs : List Byte) (s : State) : Answer :=
  if pairsLegal (decodePairs bs) then clearFlags (decodePairs bs) s else Answer.refuse .badValue s

/-- The thirteen masks replaced (R136). -/
def Events.masked (ms : List Bool) (e : Events) : Events :=
  { e with flags := mapVec (fun i x => { x with enabled := ms[i.val]?.getD false }) e.flags }

/-- A write of MASKS (R136). -/
def writeMasks (bs : List Byte) (s : State) : Answer :=
  match decodeMasks bs with
  | none => Answer.refuse .badValue s
  | some ms => Answer.ok { s with events := s.events.masked ms }

/-- CLEAR_FAULT (R145). -/
def clearRecord (s : State) : State := { s with faults := { s.faults with record := none } }

/-- CLEAR_COUNTERS (R142). -/
def clearCounts (s : State) : State := { s with faults := { s.faults with counts := Vector.replicate 8 0 } }

/-- A write of FAULT with operation `b` (R142, R145). -/
def writeFault (b : Byte) (s : State) : Answer :=
  if b = 1 then Answer.ok (clearRecord s)
  else if b = 2 then Answer.ok (clearCounts s)
  else Answer.refuse .badValue s

/-! ## Judging a frame (R168) -/

/-- The class serves the direction (R170). -/
def classServes (d : Direction) (c : ObjectClass) : Bool :=
  match d, c with
  | .write, .identity => false
  | .write, .timebase => false
  | .write, .log => false
  | .write, .hold => false
  | .write, .tags => false
  | .read, .commit => false
  | _, _ => true

/-- The index lies in the class's range; a LOG read's index is the number of records asked for (R131, R170). -/
def indexServes (c : ObjectClass) (i : Nat) : Bool :=
  match c with
  | .rule => decide (i < 32)
  | .laneStaged => decide (i < 16)
  | .laneLive => decide (i < 16)
  | .period => decide (i < 4)
  | .trigger => decide (i < 8)
  | .log => i == 1 || i == 2
  | .hold => decide (i < 48)
  | .tags => decide (i < 128)
  | .identity => i == 0
  | .mode => i == 0
  | .limits => i == 0
  | .commit => i == 0
  | .events => i == 0
  | .masks => i == 0
  | .fault => i == 0
  | .timebase => i == 0

/-- The payload length a write of the class takes (section 11.2); for EVENTS, 1 to 13 pairs (R171). -/
def writeLengthServes (c : ObjectClass) (n : Nat) : Bool :=
  match c with
  | .mode => n == 1
  | .limits => n == 13
  | .rule => n == 14
  | .laneStaged => n == 11
  | .laneLive => n == 0
  | .period => n == 3
  | .commit => n == 2
  | .trigger => n == 14
  | .events => decide (2 ≤ n) && decide (n ≤ 26) && n % 2 == 0
  | .masks => n == 13
  | .fault => n == 1
  | .identity => false
  | .log => false
  | .timebase => false
  | .hold => false
  | .tags => false

/-- The payload length serves the class and direction (R171). -/
def lengthServes (d : Direction) (c : ObjectClass) (n : Nat) : Bool :=
  match d with
  | .read => n == 0
  | .write => writeLengthServes c n

/-- The owning rule's answer to a write whose class, index and length are served (R168 step 4). -/
def ownerWrite (c : ObjectClass) (i : Nat) (bs : List Byte) (s : State) : Answer :=
  match c with
  | .mode => writeMode (bs.getD 0 0) s
  | .limits => writeLimits bs s
  | .rule => writeRule (Fin.ofNat 32 i) bs s
  | .laneStaged => writeStaged (Fin.ofNat 16 i) bs s
  | .laneLive => writeLive (Fin.ofNat 16 i) s
  | .period => writePeriod (Fin.ofNat 4 i) bs s
  | .commit => writeCommit (bs.getD 0 0) (bs.getD 1 0) s
  | .trigger => writeTrigger (Fin.ofNat 8 i) bs s
  | .events => writeEvents bs s
  | .masks => writeMasks bs s
  | .fault => writeFault (bs.getD 0 0) s
  | .identity => Answer.refuse .badClass s
  | .log => Answer.refuse .badClass s
  | .timebase => Answer.refuse .badClass s
  | .hold => Answer.refuse .badClass s
  | .tags => Answer.refuse .badClass s

/-- The contents a read returns (section 10.6). -/
def readContents (c : ObjectClass) (i : Nat) (s : State) : List Byte :=
  match c with
  | .identity => encodeIdentity s
  | .mode => [s.mode.code, s.resume.code]
  | .limits => encodeLimits s.limits
  | .rule => encodeRule s.rules[Fin.ofNat 32 i]
  | .laneStaged => encodeLane s.lanes[Fin.ofNat 16 i].staged
  | .laneLive => encodeLaneLive s.lanes[Fin.ofNat 16 i]
  | .period => encodePeriod s.gens[Fin.ofNat 4 i]
  | .commit => []
  | .trigger => encodeTrigger s.triggers[Fin.ofNat 8 i]
  | .log => encodeLog i s.log
  | .events => encodeEvents s.events
  | .masks => encodeMasks s.events
  | .fault => encodeFaults s.faults
  | .timebase => beBytes 4 s.timebase.toNat
  | .hold => encodeHold i s
  | .tags => encodeTags s.tags[Fin.ofNat 128 i] s

/-- What a read removes: a LOG read its records, every other read nothing (R131, section 10.6). -/
def afterRead (c : ObjectClass) (i : Nat) (s : State) : State :=
  if c = .log then { s with log := { s.log with records := s.log.records.drop i } } else s

/-- The owning rule's answer to a read whose class, index and length are served. -/
def ownerRead (c : ObjectClass) (i : Nat) (s : State) : Answer :=
  { state := afterRead c i s, status := .ok, payload := readContents c i s }

/-- The owning rule's answer (R168 step 4). -/
def ownerAnswer (d : Direction) (c : ObjectClass) (i : Nat) (bs : List Byte) (s : State) : Answer :=
  match d with
  | .read => ownerRead c i s
  | .write => ownerWrite c i bs s

/-- The judgement of a frame at its check byte, step by step (R168): check, class with direction and index, length,
owning rule. `length` is the length byte's, `kept` the payload bytes kept. -/
def judgeFrame (verified : Bool) (d : Direction) (c : ObjectClass) (i length : Nat) (kept : List Byte) (s : State) :
    Answer :=
  if !verified then Answer.refuse .badCheck (countFault .frameCheck FaultDetails.none s)
  else if !(classServes d c && indexServes c i) then Answer.refuse .badClass s
  else if !lengthServes d c length then Answer.refuse .badLength s
  else ownerAnswer d c i kept s

/-! ## Addressing and the reply (R165 to R167) -/

/-- The frame is addressed to this governor, which answers it (R166). -/
def addressed (channel : Fin 8) (s : State) : Bool := channel == s.straps.channel && channel != 7

/-- The frame is a broadcast write, taken and not answered (R167). -/
def broadcast (channel : Fin 8) (d : Direction) : Bool := channel == 7 && d == .write

/-- The governor receives the frame to its check byte (R166). -/
def receives (channel : Fin 8) (d : Direction) (s : State) : Bool := addressed channel s || broadcast channel d

/-- The bytes the governor shifts out: status, reply payload, reply check (R163, R164). -/
def replyBytes (a : Answer) : List Byte :=
  let covered := a.status.code :: a.payload
  covered ++ [crc8 covered]

/-- The port after a frame has been taken: in REPLY with the whole reply to send, or in IDLE (R165, R168). -/
def portAfter (answered : Bool) (a : Answer) : Port :=
  if answered then { Port.idle with state := .reply, reply := replyBytes a } else Port.idle

/-- The state after an answer has been given. -/
def conclude (answered : Bool) (a : Answer) : State := { a.state with port := portAfter answered a }

/-- A whole frame, from the fall of chip-select to the completion of its check byte (R165 to R168; log 10). -/
def takeFrame (d : Direction) (c : ObjectClass) (f : Frame) (s : State) : State :=
  if receives f.channel d s then
    conclude (addressed f.channel s)
      (judgeFrame (frameVerifies d c f) d c f.index.toNat f.payload.length (f.payload.take Config.bufferCapacity) s)
  else { s with port := Port.idle }

/-- A whole frame of an operation that shares its class with others; a frame that spells another row's operation is
not this row's event (log 11). -/
def takeOperation (c : ObjectClass) (listed : List Byte) (own : Byte) (f : Frame) (s : State) : State :=
  if spellsOther listed own f then s else takeFrame .write c f s

/-! ## The port, byte by byte (R165) -/

/-- Chip-select falls: a new frame starts with an empty buffer and a cleared check; while a reset lasts the port stays
IDLE, so that the frame is ignored to its end, even when the reset ends within it (R165). -/
def portFall (s : State) : State :=
  match s.phase with
  | .running => { s with port := { Port.idle with state := .header } }
  | .inReset _ => { s with port := Port.idle }

/-- Chip-select rises: the frame is discarded or the reply abandoned, and the port is IDLE (R165, R169). -/
def portRise (s : State) : State := { s with port := Port.idle }

/-- The port after a header byte whose address is not this governor's, or after the byte is kept (R165). -/
def headerByteTaken (b : Byte) (s : State) : State :=
  let p := { s.port with header := s.port.header ++ [b], check := crcByte s.port.check b }
  match s.port.header.length with
  | 0 => if receives (channelOf b) (directionOf b) s then { s with port := p } else { s with port := Port.idle }
  | 1 => { s with port := p }
  | _ => { s with port := { p with state := if b = 0 then .check else .payload, expect := b.toNat } }

/-- The port after a payload byte: added to the check and, among the first 56, kept (R163, R165). -/
def payloadByteTaken (b : Byte) (s : State) : State :=
  { s with port := { s.port with
      state := if s.port.expect ≤ 1 then .check else .payload
      expect := s.port.expect - 1
      buffer := if s.port.buffer.length < Config.bufferCapacity then s.port.buffer ++ [b] else s.port.buffer
      check := crcByte s.port.check b } }

/-- The check byte has completed: the frame is judged (R165, R168). -/
def checkByteTaken (b : Byte) (s : State) : State :=
  let b0 := s.port.header.getD 0 0
  conclude (addressed (channelOf b0) s)
    (judgeFrame (s.port.check == b) (directionOf b0) (classOf b0) (s.port.header.getD 1 0).toNat
      (s.port.header.getD 2 0).toNat s.port.buffer s)

/-- A byte completes (R165). -/
def portByte (b : Byte) (s : State) : State :=
  match s.port.state with
  | .idle => s
  | .header => headerByteTaken b s
  | .payload => payloadByteTaken b s
  | .check => checkByteTaken b s
  | .reply => { s with port := { s.port with reply := s.port.reply.drop 1 } }

/-- Bytes complete one after another. -/
def portBytes (bs : List Byte) (s : State) : State := bs.foldl (fun s b => portByte b s) s

/-- What the governor drives on its data output: the next reply byte in REPLY, FFh after the reply's last, nothing in
any other state (R162, R163). -/
def portDrives (s : State) : Option Byte :=
  match s.port.state with
  | .idle => none
  | .header => none
  | .payload => none
  | .check => none
  | .reply => some (s.port.reply.headD 0xFF)

/-- The levels of the data output over the next eight clocks, most significant bit first; none where the output is
undriven (R162). -/
def portShifts (s : State) : Option (List Bool) := (portDrives s).map bitsOfByte

/-- A frame cut short (R169): in the frame, its bytes so far are clocked and chip-select rises before the check byte
completes; in the reply, some of it is shifted out first. Bits that complete the check byte are no cut, and without a
reply on its way there is none to abandon (log 12). -/
def cutShort (c : Cut) (s : State) : State :=
  match c with
  | .inFrame bits =>
    if beforeCheck (bytesOfBits bits) then portRise (portBytes (bytesOfBits bits) (portFall s)) else s
  | .inReply clocks => if s.port.state = .reply then portRise (portBytes (List.replicate (clocks / 8) 0) s) else s

end Sys2Proof.Machine
end

