-- ==== Sys2Proof/Machine/MemoryPath.lean ====
section
/-! DEFINITION. The meanings of the memory path's events: the Upstream Port, the Hold Queue, the Tag Unit, the
Response Merger and the two channels' ends. An event whose condition does not hold leaves the state as it is (log 2). -/

namespace Sys2Proof.Machine

/-! ## Upstream Port and Forwarding Arbiter -/

/-- REQUEST_TAKEN: the record at the head of the upstream request channel is evaluated, and taken with the
disposition the checks give, or stalls (R6 to R13). -/
def execRequestTaken (r : Request) (s : State) : Host.Outcome State Fault Refusal :=
  whileRunning (evaluateHead r) s

/-- STRAY_BEAT_DISCARD: the beat is taken and discarded, with no fault and no record (R3). -/
def execStrayBeatDiscard (_b : LinkBeat) (s : State) : Host.Outcome State Fault Refusal := .next s

/-- The release scan that has been brought on (R82; log 4). -/
def scanIfDue (s : State) : State := if s.scanDue then releaseScan s else s

/-- RELEASE_SCAN: the Hold Queue is scanned oldest first (R81), once for the changes that brought a scan on (R82). -/
def execReleaseScan (s : State) : Host.Outcome State Fault Refusal := whileRunning scanIfDue s

/-- The memory controller takes the last beat of the record on offer: the channel is free (R1, R85). -/
def downstreamTaken (s : State) : State :=
  match s.downRequest with
  | none => s
  | some _ => bringOn { s with downRequest := none }

/-- DOWNSTREAM_REQUEST_TAKEN (R1, R82, R85). -/
def execDownstreamRequestTaken (s : State) : Host.Outcome State Fault Refusal := whileRunning downstreamTaken s

/-! ## Hold Queue -/

/-- The claim of the oldest refusal pending entry takes a slot (R94); the completions of a quiesce and of a restart
are judged after the entry has left (R155, R160). -/
def queueOldestRefused (s : State) : State :=
  match oldestRefused s.hold with
  | none => s
  | some n =>
    match s.hold[n]? with
    | none => s
    | some e =>
      match e.refusal with
      | none => s
      | some r => if slotFree s then judgeDrained (leaveRefused n e r s) else s

/-- REFUSAL_PENDING_QUEUED (R94). -/
def execRefusalPendingQueued (s : State) : Host.Outcome State Fault Refusal := whileRunning queueOldestRefused s

/-- The entry at position `n` reaches half its hold limit (R90). -/
def ageHeld (n : Nat) (s : State) : State :=
  match s.hold[n]? with
  | none => s
  | some e =>
    if e.agingDue then raise .holdAged (updateHeld n (fun x => { x with aged := true }) s) else s

/-- HOLD_AGED (R90). -/
def execHoldAged (n : Fin 48) (s : State) : Host.Outcome State Fault Refusal := whileRunning (ageHeld n) s

/-- What every expiry of a held entry counts and raises (R91, R92). -/
def noteExpiry (e : HoldEntry) (s : State) : State := raise .holdExpired (countFault .holdExpired e.faultDetails s)

/-- The expiry of the entry `e` at position `n` under FORCE (R91). -/
def expireForce (n : Nat) (e : HoldEntry) (s : State) : State :=
  bringOn (logRecord (e.expiryRecord .forced e.holdLimit)
    (noteExpiry e { s with hold := forceCascade n e s.hold }))

/-- The expiry of the entry `e` at position `n` under REFUSE (R92). -/
def expireRefuse (n : Nat) (e : HoldEntry) (s : State) : State :=
  bringOn (noteExpiry e (updateHeld n (HoldEntry.refuse .expired) s))

/-- The entry at position `n` expires, if it is due and `action` is the expiry action in force (R89, R90). -/
def expireHeld (action : ExpiryAction) (f : Nat → HoldEntry → State → State) (n : Nat) (s : State) : State :=
  match s.hold[n]? with
  | none => s
  | some e => if e.expiryDue ∧ s.limits.expiryAction = action then f n e s else s

/-- HOLD_EXPIRY_FORCE (R91). -/
def execHoldExpiryForce (n : Fin 48) (s : State) : Host.Outcome State Fault Refusal :=
  whileRunning (expireHeld .force expireForce n) s

/-- HOLD_EXPIRY_REFUSE (R92). -/
def execHoldExpiryRefuse (n : Fin 48) (s : State) : Host.Outcome State Fault Refusal :=
  whileRunning (expireHeld .refuse expireRefuse n) s

/-! ## Tag Unit -/

/-- A LIVE entry's response countdown reaches 0: it becomes timeout pending (R107). -/
def responseDeadline (t : DownTag) (s : State) : State :=
  match s.tags[t] with
  | .free => s
  | .live f => if s.tags[t].deadlineDue then setTag t (.live { f with timeoutPending := true }) s else s
  | .orphaned _ => s

/-- RESPONSE_DEADLINE (R107). -/
def execResponseDeadline (t : DownTag) (s : State) : Host.Outcome State Fault Refusal :=
  whileRunning (responseDeadline t) s

/-- The timeout of the LIVE entry `f` of tag `t`: TIMED_OUT is queued, the entry becomes ORPHANED, the fault, the event
and the record follow, and TAGS_LOW when the count reaches the alarm level (R108, R112). -/
def timeOut (t : DownTag) (f : Flight) (s : State) : State :=
  judgeDrained (noteOrphans (logRecord (.timeout f.record f.lane f.rule t)
    (raise .responseTimeout (countFault .responseTimeout (f.faultDetails t)
      (leaveLive t f f.orphan (queueLocal f.tag .timedOut s))))))

/-- The claim of a timeout pending entry takes a slot (R108). -/
def responseTimeout (t : DownTag) (s : State) : State :=
  match s.tags[t] with
  | .free => s
  | .live f => if f.timeoutPending && slotFree s then timeOut t f s else s
  | .orphaned _ => s

/-- RESPONSE_TIMEOUT (R108). -/
def execResponseTimeout (t : DownTag) (s : State) : Host.Outcome State Fault Refusal :=
  whileRunning (responseTimeout t) s

/-! ## The responses of memory (R17, R101; log 7) -/

/-- A response is being relayed: it holds the downstream response channel until the requester side has taken its last
beat (R17). -/
def relaying (s : State) : Bool :=
  match s.upResponse with
  | none => false
  | some u => u.source == .memorySide

/-- The memory controller offers `m`: it stands at the head of the channel unless another response does (R1). -/
def present (m : MemResponse) (s : State) : State := { s with downResponse := s.downResponse.or (some m) }

/-- The response at the head of the downstream response channel that no grant has been made for, after `m` has been
offered. -/
def waitingHead (m : MemResponse) (s : State) : Option MemResponse :=
  if relaying s then none else s.downResponse.or (some m)

/-- The memory side waits for the upstream response channel: the response at the head, not yet granted, has a LIVE tag
(R18, R101). -/
def memoryWaits (s : State) : Bool :=
  match s.downResponse with
  | none => false
  | some m => !relaying s && s.tags[m.tag].isLive

/-- The upstream status and data of a relayed response (R4, R102). -/
def answerStatus : MemAnswer → Status
  | .okay _ => .okay
  | .memoryError => .memoryError

/-- The data beats of a memory response (R4). -/
def answerData : MemAnswer → List Beat
  | .okay d => d
  | .memoryError => []

/-- The response on offer upstream for the memory response `m` of the entry `f` (R4, R102). -/
def relayed (m : MemResponse) (f : Flight) : UpResponse :=
  { tag := f.tag, status := answerStatus m.answer, data := answerData m.answer, source := .memorySide }

/-- The Response Merger grants the memory side when the channel is free, unless a local response waits and the turn
names the local side (R18). -/
def memoryGranted (s : State) : Bool := s.upResponse.isNone && (s.localQueue.isEmpty || s.turn == .memorySide)

/-- The relay of `m`, whose tag is LIVE with `f` (R102): the entry becomes FREE, a pending timeout goes with it, and
the turn names the source not granted (R18). -/
def relay (m : MemResponse) (f : Flight) (s : State) : State :=
  judgeDrained (leaveLive m.tag f .free { s with upResponse := some (relayed m f), turn := .localSide })

/-- The late response `h` of the ORPHANED entry `f` is taken and discarded: the tag becomes FREE, ORPHAN_RETURN is
raised, an ORPHAN record is written (R103). -/
def returnOrphan (h : MemResponse) (f : Flight) (s : State) : State :=
  bringOn (logRecord (.orphan f.record f.lane f.rule h.tag)
    (raise .orphanReturn (setTag h.tag .free { s with downResponse := none })))

/-- The unknown response `h` is taken and discarded, and UNKNOWN_RESPONSE counted (R104). -/
def discardUnknown (h : MemResponse) (s : State) : State :=
  countFault .unknownResponse (unknownDetails h.tag) { s with downResponse := none }

/-- The response `h`, which stands at the head, judged by the state of its downstream tag: LIVE, it is relayed at the
memory side's grant and waits without it; ORPHANED or FREE, it is taken at once and discarded (R101, R105). -/
def judgeResponse (h : MemResponse) (s : State) : State :=
  match s.tags[h.tag] with
  | .free => discardUnknown h s
  | .live f => if memoryGranted s then relay h f s else s
  | .orphaned f => returnOrphan h f s

/-- The memory controller offers `m`, and the response at the head is judged; while a response is being relayed, none
is (R17, R101; log 7). -/
def offerResponse (m : MemResponse) (s : State) : State :=
  match waitingHead m s with
  | none => s
  | some h => judgeResponse h (present m s)

/-- RESPONSE_RELAY: a memory response is offered, and the one at the head is relayed if its tag is LIVE and the memory
side is granted; whatever its tag's state, R101 judges it (R102). -/
def execResponseRelay (m : MemResponse) (s : State) : Host.Outcome State Fault Refusal :=
  whileRunning (offerResponse m) s

/-- ORPHAN_RETURN: a memory response is offered, and the one at the head is discarded as late if its tag is ORPHANED;
whatever its tag's state, R101 judges it (R103, R105). -/
def execOrphanReturn (m : MemResponse) (s : State) : Host.Outcome State Fault Refusal :=
  whileRunning (offerResponse m) s

/-- UNKNOWN_RESPONSE: a memory response is offered, and the one at the head is discarded as unknown if its tag is FREE;
whatever its tag's state, R101 judges it (R104). -/
def execUnknownResponse (m : MemResponse) (s : State) : Host.Outcome State Fault Refusal :=
  whileRunning (offerResponse m) s

/-! ## Response Merger, local side -/

/-- The Response Merger grants the local side when the channel is free, unless the memory side waits and the turn
names it (R18). -/
def localGranted (s : State) : Bool := s.upResponse.isNone && (!memoryWaits s || s.turn == .localSide)

/-- The oldest local response is granted the channel: its slot becomes free, and the turn names the memory side
(R15, R18). -/
def sendLocal (s : State) : State :=
  match s.localQueue with
  | [] => s
  | x :: rest =>
    if localGranted s then
      bringEval { s with
        upResponse := some { tag := x.tag, status := x.status, data := [], source := .localSide }
        localQueue := rest
        turn := .memorySide }
    else s

/-- LOCAL_RESPONSE_SENT (R18). -/
def execLocalResponseSent (s : State) : Host.Outcome State Fault Refusal := whileRunning sendLocal s

/-- The requester side takes the last beat of the response on offer: the channel is free, and the downstream response
channel with it when the response was relayed (R1, R17, R18). -/
def upstreamTaken (s : State) : State :=
  { s with upResponse := none, downResponse := if relaying s then none else s.downResponse }

/-- UPSTREAM_RESPONSE_TAKEN (R1). -/
def execUpstreamResponseTaken (s : State) : Host.Outcome State Fault Refusal := whileRunning upstreamTaken s

end Sys2Proof.Machine
end

