-- ==== Sys2Proof/Machine/TimeAndReset.lean ====
section
/-! DEFINITION. The meanings of the Timebase's events, of the quiesce timer's end, and of the resets. -/

namespace Sys2Proof.Machine

/-- A tick, unless an event of the last one is still to come (R59, R60; log 5). -/
def tickIfClear (s : State) : State := if tickDue s then s else tick s

/-- TIMEBASE_TICK (R59). -/
def execTimebaseTick (s : State) : Host.Outcome State Fault Refusal := whileRunning tickIfClear s

/-- The expiry of generator `g`, if its countdown has run out (R62, R63). -/
def expireIfDue (g : Gen) (s : State) : State := if s.gens[g].expiring then expire g s else s

/-- PERIOD_GENERATOR_EXPIRY (R63). -/
def execPeriodGeneratorExpiry (g : Gen) (s : State) : Host.Outcome State Fault Refusal :=
  whileRunning (expireIfDue g) s

/-- The quiesce is forced, if the timer has reached 0 in QUIESCING: withdrawals, the fault, the timer stopped (R156). -/
def forceQuiesce (s : State) : State :=
  if quiesceDue s then
    countFault .quiesceForced FaultDetails.none (withdrawAll { s with quiesceTimer := none })
  else s

/-- QUIESCE_FORCED (R156). -/
def execQuiesceForced (s : State) : Host.Outcome State Fault Refusal := whileRunning forceQuiesce s

/-- POWER_ON_RESET begins: every item takes its reset value, the Fault Record and the counters included (R150). -/
def execPowerOnReset (s : State) : Host.Outcome State Fault Refusal :=
  .next (heldInReset .powerOn Faults.reset s)

/-- A pin reset begins: the Fault Record and the counters stay (R150). -/
def beginPinReset (s : State) : State := heldInReset .pin s.faults s

/-- PIN_RESET: RST_N is taken low; while a power-on reset lasts the two make one power-on reset (R149, R150). -/
def execPinReset (s : State) : Host.Outcome State Fault Refusal :=
  match s.phase with
  | .running => .next (beginPinReset s)
  | .inReset .pin => .next (beginPinReset s)
  | .inReset .powerOn => .next s

/-- RESET_END: the straps are sampled and the governor runs (R148, R149); without a reset there is none to end. -/
def execResetEnd (p : Straps) (s : State) : Host.Outcome State Fault Refusal :=
  match s.phase with
  | .running => .next s
  | .inReset c => .next (leaveReset c p s)

end Sys2Proof.Machine
end

