-- ==== Sys2Proof/Machine/Management.lean ====
section
/-! DEFINITION. The meanings of the management frames (chapter 10). A frame is one command, from the fall of
chip-select to its check byte (log 10); direction and class are the row's. -/

namespace Sys2Proof.Machine

/-! ## Mode requests -/

/-- MODE_BYPASS: a MODE write of request 00h (R151, R152). -/
def execModeBypass (f : Frame) (s : State) : Host.Outcome State Fault Refusal :=
  whileRunning (takeOperation .mode modeCodes 0 f) s

/-- MODE_MONITOR: a MODE write of request 01h (R151, R152). -/
def execModeMonitor (f : Frame) (s : State) : Host.Outcome State Fault Refusal :=
  whileRunning (takeOperation .mode modeCodes 1 f) s

/-- MODE_GOVERN: a MODE write of request 02h (R151, R152). -/
def execModeGovern (f : Frame) (s : State) : Host.Outcome State Fault Refusal :=
  whileRunning (takeOperation .mode modeCodes 2 f) s

/-- QUIESCE: a MODE write of request 03h (R151, R154). -/
def execQuiesce (f : Frame) (s : State) : Host.Outcome State Fault Refusal :=
  whileRunning (takeOperation .mode modeCodes 3 f) s

/-- RESUME: a MODE write of request 04h (R151, R158). -/
def execResume (f : Frame) (s : State) : Host.Outcome State Fault Refusal :=
  whileRunning (takeOperation .mode modeCodes 4 f) s

/-- RESTART: a MODE write of request 05h (R151, R159). -/
def execRestart (f : Frame) (s : State) : Host.Outcome State Fault Refusal :=
  whileRunning (takeOperation .mode modeCodes 5 f) s

/-! ## Writes of objects -/

/-- LIMITS_WRITE (R174). -/
def execLimitsWrite (f : Frame) (s : State) : Host.Outcome State Fault Refusal :=
  whileRunning (takeFrame .write .limits f) s

/-- RULE_WRITE (R21). -/
def execRuleWrite (f : Frame) (s : State) : Host.Outcome State Fault Refusal :=
  whileRunning (takeFrame .write .rule f) s

/-- LANE_STAGED_WRITE (R66). -/
def execLaneStagedWrite (f : Frame) (s : State) : Host.Outcome State Fault Refusal :=
  whileRunning (takeFrame .write .laneStaged f) s

/-- LANE_LIVE_WRITE (R57). -/
def execLaneLiveWrite (f : Frame) (s : State) : Host.Outcome State Fault Refusal :=
  whileRunning (takeFrame .write .laneLive f) s

/-- PERIOD_WRITE (R67). -/
def execPeriodWrite (f : Frame) (s : State) : Host.Outcome State Fault Refusal :=
  whileRunning (takeFrame .write .period f) s

/-- COMMIT: a COMMIT write of operation 01h (R68). -/
def execCommit (f : Frame) (s : State) : Host.Outcome State Fault Refusal :=
  whileRunning (takeOperation .commit twoCodes 1 f) s

/-- CANCEL: a COMMIT write of operation 02h (R69). -/
def execCancel (f : Frame) (s : State) : Host.Outcome State Fault Refusal :=
  whileRunning (takeOperation .commit twoCodes 2 f) s

/-- TRIGGER_WRITE (R117). -/
def execTriggerWrite (f : Frame) (s : State) : Host.Outcome State Fault Refusal :=
  whileRunning (takeFrame .write .trigger f) s

/-- LOG_READ (R131). -/
def execLogRead (f : Frame) (s : State) : Host.Outcome State Fault Refusal :=
  whileRunning (takeFrame .read .log f) s

/-- CLEAR: an EVENTS write (R139). -/
def execClear (f : Frame) (s : State) : Host.Outcome State Fault Refusal :=
  whileRunning (takeFrame .write .events f) s

/-- MASKS_WRITE (R136). -/
def execMasksWrite (f : Frame) (s : State) : Host.Outcome State Fault Refusal :=
  whileRunning (takeFrame .write .masks f) s

/-- CLEAR_FAULT: a FAULT write of operation 01h (R145). -/
def execClearFault (f : Frame) (s : State) : Host.Outcome State Fault Refusal :=
  whileRunning (takeOperation .fault twoCodes 1 f) s

/-- CLEAR_COUNTERS: a FAULT write of operation 02h (R142). -/
def execClearCounters (f : Frame) (s : State) : Host.Outcome State Fault Refusal :=
  whileRunning (takeOperation .fault twoCodes 2 f) s

/-! ## The port's own cases -/

/-- UNSERVED_WRITE: a write of a class that serves none is answered BAD_CLASS (R170). -/
def execUnservedWrite (c : UnservedClass) (f : Frame) (s : State) : Host.Outcome State Fault Refusal :=
  whileRunning (takeFrame .write c.toClass f) s

/-- FRAME_CUT_SHORT (R169). -/
def execFrameCutShort (c : Cut) (s : State) : Host.Outcome State Fault Refusal := whileRunning (cutShort c) s

/-- A frame whose check fails is taken; one whose check verifies is another row's event (R168; log 12). -/
def takeBadCheck (d : Direction) (c : ObjectClass) (f : Frame) (s : State) : State :=
  if frameVerifies d c f then s else takeFrame d c f s

/-- BAD_CHECK: a frame whose check byte does not verify (R168). -/
def execBadCheck (d : Direction) (c : ObjectClass) (f : Frame) (s : State) : Host.Outcome State Fault Refusal :=
  whileRunning (takeBadCheck d c f) s

end Sys2Proof.Machine
end

