-- ==== Sys2Proof/Machine/Dispatch.lean ====
section
/-! DEFINITION. One arm for each command: the meaning it runs. -/

namespace Sys2Proof.Machine

/-- The effect of a command on everything but the queue. -/
def exec (i : Instr) (s : State) : Host.Outcome State Fault Refusal :=
  match i with
  | .requestTaken r => Sys2Proof.Machine.execRequestTaken r s
  | .strayBeatDiscard b => Sys2Proof.Machine.execStrayBeatDiscard b s
  | .releaseScan => Sys2Proof.Machine.execReleaseScan s
  | .downstreamRequestTaken => Sys2Proof.Machine.execDownstreamRequestTaken s
  | .refusalPendingQueued => Sys2Proof.Machine.execRefusalPendingQueued s
  | .holdAged n => Sys2Proof.Machine.execHoldAged n s
  | .holdExpiryForce n => Sys2Proof.Machine.execHoldExpiryForce n s
  | .holdExpiryRefuse n => Sys2Proof.Machine.execHoldExpiryRefuse n s
  | .responseDeadline t => Sys2Proof.Machine.execResponseDeadline t s
  | .responseTimeout t => Sys2Proof.Machine.execResponseTimeout t s
  | .responseRelay m => Sys2Proof.Machine.execResponseRelay m s
  | .localResponseSent => Sys2Proof.Machine.execLocalResponseSent s
  | .upstreamResponseTaken => Sys2Proof.Machine.execUpstreamResponseTaken s
  | .orphanReturn m => Sys2Proof.Machine.execOrphanReturn m s
  | .unknownResponse m => Sys2Proof.Machine.execUnknownResponse m s
  | .timebaseTick => Sys2Proof.Machine.execTimebaseTick s
  | .periodGeneratorExpiry g => Sys2Proof.Machine.execPeriodGeneratorExpiry g s
  | .quiesceForced => Sys2Proof.Machine.execQuiesceForced s
  | .powerOnReset => Sys2Proof.Machine.execPowerOnReset s
  | .pinReset => Sys2Proof.Machine.execPinReset s
  | .resetEnd p => Sys2Proof.Machine.execResetEnd p s
  | .modeBypass f => Sys2Proof.Machine.execModeBypass f s
  | .modeMonitor f => Sys2Proof.Machine.execModeMonitor f s
  | .modeGovern f => Sys2Proof.Machine.execModeGovern f s
  | .quiesce f => Sys2Proof.Machine.execQuiesce f s
  | .resume f => Sys2Proof.Machine.execResume f s
  | .restart f => Sys2Proof.Machine.execRestart f s
  | .limitsWrite f => Sys2Proof.Machine.execLimitsWrite f s
  | .ruleWrite f => Sys2Proof.Machine.execRuleWrite f s
  | .laneStagedWrite f => Sys2Proof.Machine.execLaneStagedWrite f s
  | .laneLiveWrite f => Sys2Proof.Machine.execLaneLiveWrite f s
  | .periodWrite f => Sys2Proof.Machine.execPeriodWrite f s
  | .commit f => Sys2Proof.Machine.execCommit f s
  | .cancel f => Sys2Proof.Machine.execCancel f s
  | .triggerWrite f => Sys2Proof.Machine.execTriggerWrite f s
  | .logRead f => Sys2Proof.Machine.execLogRead f s
  | .clear f => Sys2Proof.Machine.execClear f s
  | .masksWrite f => Sys2Proof.Machine.execMasksWrite f s
  | .clearFault f => Sys2Proof.Machine.execClearFault f s
  | .clearCounters f => Sys2Proof.Machine.execClearCounters f s
  | .unservedWrite c f => Sys2Proof.Machine.execUnservedWrite c f s
  | .frameCutShort c => Sys2Proof.Machine.execFrameCutShort c s
  | .badCheck d c f => Sys2Proof.Machine.execBadCheck d c f s

end Sys2Proof.Machine
end

