-- ==== Sys2Proof/Safety.lean ====
section
/-! DEFINITION. What a sound state is, in the terms the statements use: the bounds of every queue and counter, the
legality of every table, and the relations between blocks that the rules promise to keep at every event. -/

namespace Sys2Proof.Machine

/-! ## Capacities -/

/-- Every collection is within its capacity (R15, R76, R122, R163). -/
abbrev State.Bounded (s : State) : Prop :=
  s.hold.length ≤ Config.holdCapacity ∧ usedBeats s ≤ Config.storeCapacity ∧
    s.localQueue.length ≤ Config.localCapacity ∧ s.log.records.length ≤ Config.logCapacity ∧
    s.port.buffer.length ≤ Config.bufferCapacity

/-- The 16-bit saturating counters are within their range (R130, R141). -/
abbrev State.Counted (s : State) : Prop := s.log.lost ≤ Config.top16 ∧ ∀ k : Fin 8, s.faults.counts[k] ≤ Config.top16

/-! ## Lanes (R34, R36, R37, R38) -/

/-- The balance a lane's kind allows: −15 to the live budget on a METERED lane, the live budget on any other (R36). -/
abbrev Lane.BalanceWithin (l : Lane) : Prop :=
  if l.live.kind = .metered then -15 ≤ l.balance ∧ l.balance ≤ l.live.budget else l.balance = l.live.budget

/-- The 32-bit counters of a lane are within their range (R37, R38). -/
abbrev Lane.Counted (l : Lane) : Prop :=
  l.consumed ≤ Config.top32 ∧ l.overrun ≤ Config.top32 ∧ l.lastConsumed ≤ Config.top32 ∧
    l.totalHolds ≤ Config.top32 ∧ l.totalRefusals ≤ Config.top32 ∧ l.totalOverrun ≤ Config.top32

/-- A lane with legal records, a balance within bounds and counters in range. -/
abbrev Lane.Sound (l : Lane) : Prop :=
  l.live.legal = true ∧ l.staged.legal = true ∧ l.BalanceWithin ∧ l.Counted

/-- A request's cost is 1 to 16 beats (R2). -/
abbrev Passage.CostWithin (p : Passage) : Prop := 1 ≤ p.length ∧ p.length ≤ Config.maxBeats

/-- Every lane is sound, and no held entry can be charged more than 16 beats. -/
abbrev State.Solvent (s : State) : Prop := (∀ l : LaneId, s.lanes[l].Sound) ∧ ∀ e ∈ s.hold, e.req.CostWithin

/-! ## Tags (R9, R44, R98) -/

/-- The upstream tag of a LIVE entry. -/
def TagEntry.liveTag : TagEntry → Option UpTag
  | .free => none
  | .live f => some f.tag
  | .orphaned _ => none

/-- The upstream tags of the held entries and of the LIVE entries. -/
def State.upTags (s : State) : List UpTag :=
  s.hold.map (fun e => e.req.tag) ++ s.tags.toList.filterMap TagEntry.liveTag

/-- No two held or LIVE entries carry the same upstream tag (R9). -/
abbrev State.TagsUnique (s : State) : Prop := s.upTags.Nodup

/-- Every lane's live count is the number of LIVE entries that carry the lane (R44). -/
abbrev State.LiveCounted (s : State) : Prop :=
  ∀ l : LaneId, s.lanes[l].liveCount = countTags (TagEntry.isLiveOn l) s

/-- What a LIVE or an ORPHANED entry's countdown and timeout pending may be (R98, R107, R115). -/
abbrev TagEntry.Sound (e : TagEntry) : Prop :=
  match e with
  | .free => True
  | .live f => f.remaining.getD 0 ≤ 65535 ∧ (f.timeoutPending = true → f.remaining = some 0)
  | .orphaned f => f.remaining = none ∧ f.timeoutPending = false

/-! ## Held entries (R77, R78, R90, R91) -/

/-- A held entry's fields are in range: its countdown within its hold limit, 0 when forced; its data the beats of a
WRITE, none of a READ or FETCH. -/
abbrev HoldEntry.Sound (e : HoldEntry) : Prop :=
  1 ≤ e.holdLimit ∧ e.holdLimit ≤ 65535 ∧ e.remaining ≤ e.holdLimit ∧ (e.forced = true → e.remaining = 0) ∧
    e.req.CostWithin ∧ e.req.data.length = e.storeBeats ∧ e.waited ≤ Config.top32

/-- The settings are legal, and every held entry, every in-flight entry is sound under them. -/
abbrev State.EntriesSound (s : State) : Prop :=
  s.limits.legal = true ∧ (∀ e ∈ s.hold, e.Sound) ∧ ∀ t : DownTag, s.tags[t].Sound

/-! ## Period generators (R61, R62) -/

/-- A generator's periods and countdown are in range; an expiry that is due shows a countdown of 1. -/
abbrev Generator.Sound (g : Generator) : Prop :=
  1 ≤ g.livePeriod ∧ g.livePeriod ≤ Config.maxPeriod ∧ 1 ≤ g.stagedPeriod ∧ g.stagedPeriod ≤ Config.maxPeriod ∧
    1 ≤ g.remaining ∧ g.remaining ≤ g.livePeriod ∧ (g.expiring = true → g.remaining = 1)

/-- Every generator is sound. -/
abbrev State.PeriodsSound (s : State) : Prop := ∀ g : Gen, s.gens[g].Sound

/-! ## Tables (R20, R21, R116, R117, R120) -/

/-- Every rule's and every trigger's window and kinds are legal, and only an enabled trigger is armed. -/
abbrev State.TablesLegal (s : State) : Prop :=
  (∀ n : RuleId, s.rules[n].pattern.legal = true) ∧
    ∀ t : TriggerId, s.triggers[t].pattern.legal = true ∧ (s.triggers[t].armed = true → s.triggers[t].enabled = true)

/-! ## Events (R133) -/

/-- Each set is empty exactly while its flag is clear (R133). -/
abbrev Events.SetsAgree (e : Events) : Prop :=
  (e.flags[Flag.watermark.code].set = false ↔ e.watermarkLanes = 0) ∧
    (e.flags[Flag.exhausted.code].set = false ↔ e.exhaustedLanes = 0) ∧
    (e.flags[Flag.commitDone.code].set = false ↔ e.commitGens = 0)

/-! ## The Mode Controller (R147, R155, R160) -/

/-- While a reset lasts the state is an operating mode, the resume mode, and no quiesce timer runs (R150). -/
abbrev State.ResetHeld (s : State) : Prop :=
  s.phase = .running ∨ (s.mode = .operating s.resume ∧ s.quiesceTimer = none)

/-- The state, the resume mode, the quiesce timer and what is held or LIVE fit together: an operating mode is the
resume mode; QUIESCING lasts while something is held or LIVE, and QUIESCED has neither; RESTARTING lasts while
something is held, all of it refusal pending; the timer runs in QUIESCING alone; and a reset stands in an operating
mode. -/
abbrev State.ModeSound (s : State) : Prop :=
  s.ResetHeld ∧
    match s.mode with
    | .operating m => s.resume = m ∧ s.quiesceTimer = none
    | .quiescing => s.hold ≠ [] ∨ liveTotal s ≠ 0
    | .quiesced => s.hold = [] ∧ liveTotal s = 0 ∧ s.quiesceTimer = none
    | .restarting => s.hold ≠ [] ∧ (∀ e ∈ s.hold, e.refusal.isSome = true) ∧ s.quiesceTimer = none

/-! ## All of it -/

/-- A sound state: every promise above holds. -/
structure State.Sound (s : State) : Prop where
  bounded : s.Bounded
  counted : s.Counted
  solvent : s.Solvent
  tagsUnique : s.TagsUnique
  liveCounted : s.LiveCounted
  entriesSound : s.EntriesSound
  periodsSound : s.PeriodsSound
  tablesLegal : s.TablesLegal
  setsAgree : s.events.SetsAgree
  modeSound : s.ModeSound

end Sys2Proof.Machine

namespace Sys2Proof

open Sys2Proof.Machine

/-! ## The terms of the statements: frames, and a request's fields -/

/-- The frame is addressed to this governor: its channel is the sampled one, and not 7 (R166). -/
abbrev Frame.Addressed (f : Frame) (s : State) : Prop := f.channel = s.straps.channel ∧ f.channel ≠ 7

/-- The governor acts on the frame: no reset lasts, and the frame is addressed to it or a broadcast write (R166, R167). -/
abbrev Frame.Received (d : Direction) (f : Frame) (s : State) : Prop :=
  s.phase = .running ∧ (f.Addressed s ∨ (f.channel = 7 ∧ d = .write))

/-- The frame's check byte is the CRC-8 of the bytes before it (R164). -/
abbrev Frame.Verifies (d : Direction) (c : ObjectClass) (f : Frame) : Prop := crc8 (coveredBytes d c f) = f.check

/-- A request's fields with its codes as carried (R182). -/
abbrev Request.fields (r : Request) : RecordRequest :=
  { requester := r.requester, tag := r.tag, kind := r.kind, address := r.address, length := r.length }

end Sys2Proof

namespace Sys2Proof.Machine

/-- The port after the frame has been taken: the whole reply waiting in REPLY, or IDLE after a broadcast (R163, R165,
R167). -/
def replyPort (f : Frame) (st : MgmtStatus) (payload : List Byte) : Port :=
  if f.channel = 7 then Port.idle
  else { Port.idle with state := .reply, reply := st.code :: payload ++ [crc8 (st.code :: payload)] }

/-- `s` with the frame answered with a status and a reply payload. -/
def State.answered (f : Frame) (st : MgmtStatus) (payload : List Byte) (s : State) : State :=
  { s with port := replyPort f st payload }

/-! ## The terms of the statements: requests -/

/-- `r` is the record to be evaluated when the command offers `offered`: it is offered now to an empty channel, or it
stands offered and an evaluation has been brought on (R1, R6). -/
abbrev State.Evaluates (offered r : Request) (s : State) : Prop :=
  s.phase = .running ∧ ((s.offered = none ∧ offered = r) ∨ (s.offered = some r ∧ s.evalDue = true))

/-- A held or a LIVE entry carries the upstream tag (R9). -/
abbrev State.Carries (u : UpTag) (s : State) : Prop :=
  (∃ e ∈ s.hold, e.req.tag = u) ∨ ∃ t : DownTag, s.tags[t].liveTag = some u

/-- The lane has credit, as its kind decides (R35). -/
abbrev Lane.Credit (l : Lane) : Prop :=
  (l.live.kind = .metered ∧ 1 ≤ l.balance) ∨ l.live.kind = .openLane

/-- A charge of `cost` beats carries the lane's consumption to its watermark, for the first time in the period (R50). -/
abbrev Lane.Reaches (cost : Nat) (l : Lane) : Prop :=
  l.watermarkReached = false ∧ ∃ w, l.live.watermark = some w ∧ w ≤ (l.charged cost).consumed

/-- The lane has concurrency (R39, R43). -/
abbrev Lane.Concurrency (l : Lane) : Prop := ∀ k, l.live.concurrency = some k → l.liveCount < k

end Sys2Proof.Machine
end

