-- ==== Sys2Proof/Certificates/Slice0/Obligations.lean ====
section
/-! DEFINITION. The statements for the provers. -/

open Sys2Proof Sys2Proof.Machine

/-! ## The machine as a whole -/

/-- A step runs the command at the front of the queue on the queue's rest; an empty queue idles (the model's choice,
log 3). -/
def Obligations.StepRunsFrontCommand : Prop :=
  (∀ (c : Instr) (rest : List Instr) (s : State), s.pending = c :: rest →
      step s = exec c { s with pending := rest }) ∧
    ∀ s : State, s.pending = [] → step s = .next s

/-- No command stops the machine: whatever the command and the state, it answers a next state, whose queue is the one
it was given (chapter 8: a fault does not stop the governor; log 2). -/
def Obligations.EveryCommandGoesOn : Prop :=
  ∀ (c : Instr) (s : State), ∃ t, exec c s = .next t ∧ t.pending = s.pending

/-- What reset leaves, block by block: R15, R18, R20, R34, R37, R38, R59, R61, R76, R97, R116, R122, R133, R142, R143,
R147, R165, R175. The straps `State.reset` stands for are the model's choice (log 1). -/
def Obligations.ResetLeavesResetValues : Prop :=
  (∀ n : RuleId, State.reset.rules[n] =
      { enabled := false, pattern := { base := 0, limit := 0, value := 0, mask := 0, kinds := 7 },
        action := .forward, lane := 0, logRefusals := false }) ∧
    (∀ l : LaneId, State.reset.lanes[l].live =
        { kind := .openLane, budget := 16777215, watermark := none, concurrency := none, policy := .hold, gen := 0,
          summary := false } ∧
      State.reset.lanes[l].staged = State.reset.lanes[l].live ∧ State.reset.lanes[l].balance = 16777215 ∧
      State.reset.lanes[l].consumed = 0 ∧ State.reset.lanes[l].overrun = 0 ∧
      State.reset.lanes[l].watermarkReached = false ∧ State.reset.lanes[l].exhausted = false ∧
      State.reset.lanes[l].liveCount = 0 ∧ State.reset.lanes[l].lastConsumed = 0 ∧
      State.reset.lanes[l].totalForwarded = 0 ∧ State.reset.lanes[l].totalHolds = 0 ∧
      State.reset.lanes[l].totalRefusals = 0 ∧ State.reset.lanes[l].totalOverrun = 0) ∧
    (∀ g : Gen, State.reset.gens[g].livePeriod = 1000 ∧ State.reset.gens[g].stagedPeriod = 1000 ∧
      State.reset.gens[g].remaining = 1000 ∧ State.reset.gens[g].expiries = 0 ∧
      State.reset.gens[g].commitPending = false) ∧
    (∀ t : TriggerId, State.reset.triggers[t] =
      { enabled := false, mode := .once, gen := 0,
        pattern := { base := 0, limit := 268435455, value := 0, mask := 0, kinds := 7 }, armed := false }) ∧
    State.reset.hold = [] ∧ (∀ t : DownTag, State.reset.tags[t] = .free) ∧
    State.reset.localQueue = [] ∧ State.reset.turn = .memorySide ∧ State.reset.upResponse = none ∧
    State.reset.downRequest = none ∧ State.reset.timebase = 0 ∧
    State.reset.log = { records := [], next := 0, lost := 0 } ∧
    (∀ i : Fin 13, State.reset.events.flags[i] = { set := false, raises := 0, enabled := false }) ∧
    State.reset.events.watermarkLanes = 0 ∧ State.reset.events.exhaustedLanes = 0 ∧
    State.reset.events.commitGens = 0 ∧ alert State.reset = false ∧
    State.reset.faults.record = none ∧ (∀ k : Fin 8, State.reset.faults.counts[k] = 0) ∧
    State.reset.limits =
      { holdLimit := 2000, expiryAction := .force, responseLimit := some 10000, quiesceLimit := 10000,
        fullAction := .stall, logPolicy := .stop, logThreshold := 48, logRefusals := false, orphanAlarm := 32 } ∧
    State.reset.mode = .operating State.reset.resume ∧ State.reset.quiesceTimer = none ∧
    State.reset.port.state = .idle

/-- The state after reset is sound. -/
def Obligations.ResetIsSound : Prop := State.reset.Sound

/-! ## What every step keeps -/

/-- Every collection stays within its capacity and every 16-bit counter within its range (R15, R76, R122, R130, R141). -/
def Obligations.CapacitiesKept : Prop :=
  ∀ s t : State, s.Bounded ∧ s.Counted → step s = .next t → t.Bounded ∧ t.Counted

/-- Every lane's balance stays within −15 and its budget, or at its budget when the lane is not METERED (R36), its
records legal and its counters in range. -/
def Obligations.LaneBalancesKept : Prop := ∀ s t : State, s.Solvent → step s = .next t → t.Solvent

/-- No two held or LIVE entries come to carry the same upstream tag (R9). -/
def Obligations.UpstreamTagsStayUnique : Prop := ∀ s t : State, s.TagsUnique → step s = .next t → t.TagsUnique

/-- Every lane's live count stays the number of LIVE entries that carry the lane (R44). -/
def Obligations.LiveCountsStayExact : Prop := ∀ s t : State, s.LiveCounted → step s = .next t → t.LiveCounted

/-- The settings stay legal, and held and in-flight entries stay as R77, R78, R90, R98 and R107 allow. -/
def Obligations.EntriesStaySound : Prop := ∀ s t : State, s.EntriesSound → step s = .next t → t.EntriesSound

/-- Generators, rules and triggers stay in range (R61, R62, R20, R21, R116, R117), and a disabled trigger stays
disarmed (R120). -/
def Obligations.PeriodsAndTablesKept : Prop :=
  ∀ s t : State, s.PeriodsSound ∧ s.TablesLegal → step s = .next t → t.PeriodsSound ∧ t.TablesLegal

/-- A lane set or PG set stays empty exactly while its flag is clear (R133). -/
def Obligations.EventSetsAgreeWithFlags : Prop :=
  ∀ s t : State, s.events.SetsAgree → step s = .next t → t.events.SetsAgree

/-- The Mode Controller's state stays consistent: QUIESCED holds nothing and awaits nothing, QUIESCING and RESTARTING
end at the event that drains them, an operating mode is the resume mode, and a reset stands in an operating mode with no
quiesce timer (R147, R150, R155, R160). -/
def Obligations.ModeControllerStaysConsistent : Prop := ∀ s t : State, s.ModeSound → step s = .next t → t.ModeSound

/-! ## Whole-machine rules -/

/-- A Fault Record that holds a fault is changed by CLEAR_FAULT and by power-on reset alone (R143). -/
def Obligations.FaultRecordPersists : Prop :=
  ∀ (c : Instr) (s t : State) (r : FaultRecord), s.faults.record = some r → exec c s = .next t →
    (∀ f, c ≠ .clearFault f) → c ≠ .powerOnReset → t.faults.record = some r

/-- Each requester's requests leave the Downstream Port in the order they were taken: a record put on offer is an
arrival whose requester has nothing held, or the held entry of its requester behind refusal pending ones alone (R80). -/
def Obligations.RequesterOrderKept : Prop :=
  ∀ (s t : State) (d : DownRequest), step s = .next t → s.downRequest = none → t.downRequest = some d →
    (∀ e ∈ s.hold, e.req.requester ≠ d.requester) ∨
      ∃ n e, s.hold[n]? = some e ∧ e.req.requester = d.requester ∧
        t.hold.map HoldEntry.req = (s.hold.map HoldEntry.req).eraseIdx n ∧
        ∀ m < n, ∀ x, t.hold[m]? = some x → x.req.requester = d.requester → x.refusal.isSome = true

/-- Resets apart, each kind of configuration changes at its own command alone: the Timebase at TIMEBASE_TICK (R59), the
Rule Table at RULE_WRITE (R21), the settings at LIMITS_WRITE (R174), a staged record at LANE_STAGED_WRITE (R65), a live
record and a live period at PERIOD_GENERATOR_EXPIRY (R34, R61), a staged period at PERIOD_WRITE (R61), a mask at
MASKS_WRITE (R133), a trigger's software-written fields at TRIGGER_WRITE (R116, R117, R120), the straps and the reset cause
at RESET_END (R148, R149). -/
def Obligations.ConfigurationHasOneWriter : Prop :=
  ∀ (c : Instr) (s t : State), exec c s = .next t → c ≠ .powerOnReset → c ≠ .pinReset →
    (t.timebase ≠ s.timebase → c = .timebaseTick) ∧
    (t.rules ≠ s.rules → ∃ f, c = .ruleWrite f) ∧
    (t.limits ≠ s.limits → ∃ f, c = .limitsWrite f) ∧
    (∀ l : LaneId, t.lanes[l].staged ≠ s.lanes[l].staged → ∃ f, c = .laneStagedWrite f) ∧
    (∀ l : LaneId, t.lanes[l].live ≠ s.lanes[l].live → ∃ g, c = .periodGeneratorExpiry g) ∧
    (∀ g : Gen, t.gens[g].livePeriod ≠ s.gens[g].livePeriod → c = .periodGeneratorExpiry g) ∧
    (∀ g : Gen, t.gens[g].stagedPeriod ≠ s.gens[g].stagedPeriod → ∃ f, c = .periodWrite f) ∧
    (∀ i : Fin 13, (t.events.flags[i]).enabled ≠ (s.events.flags[i]).enabled → ∃ f, c = .masksWrite f) ∧
    (∀ n : TriggerId, { t.triggers[n] with armed := s.triggers[n].armed } ≠ s.triggers[n] → ∃ f, c = .triggerWrite f) ∧
    (t.straps ≠ s.straps ∨ t.resetCause ≠ s.resetCause → ∃ p, c = .resetEnd p)

/-! ## Requests: form, classification, dispositions -/

/-- A request is malformed exactly when one of the six conditions of R5 holds; a well-formed one is handled with the
fields it carries, and a WRITE's data are its beats. -/
def Obligations.MalformedExactly : Prop :=
  ∀ r : Request,
    (wellFormedRequest r = none ↔
      r.address.toNat % 32 ≠ 0 ∨ (r.length.toNat < 1 ∨ 16 < r.length.toNat) ∨
        4096 < r.address.toNat % 4096 + 32 * r.length.toNat ∨ r.kind = 3 ∨
        ((r.kind = 0 ∨ r.kind = 2) ∧ r.beats ≠ []) ∨
        (r.kind = 1 ∧ (r.beats.take 16).findIdx? LinkBeat.last ≠ some (r.length.toNat - 1))) ∧
    ∀ p, wellFormedRequest r = some p →
      p.requester = r.requester ∧ p.tag = r.tag ∧ p.kind.code = r.kind ∧ p.address = r.address ∧
        p.length = r.length.toNat ∧ p.lane = none ∧ p.rule = none ∧
        p.data = if r.kind = 1 then (r.beats.take r.length.toNat).map LinkBeat.data else []

/-- An entry of the Rule Table matches a request exactly by the four conditions of R24, and a capture trigger exactly by
the four conditions of R118. -/
def Obligations.RulesAndTriggersMatchExactly : Prop :=
  let inside := fun (x : Pattern) (p : Passage) =>
    (x.base ≤ p.address.toNat / 4096 ∧ p.address.toNat / 4096 ≤ x.limit) ∧
      (∀ i : Fin 8, x.mask.getLsbD i = true → p.requester.getLsbD i = x.value.getLsbD i) ∧
      ((p.kind = .read ∧ x.kinds.getLsbD 0 = true) ∨ (p.kind = .write ∧ x.kinds.getLsbD 1 = true) ∨
        (p.kind = .fetch ∧ x.kinds.getLsbD 2 = true))
  (∀ (e : RuleEntry) (p : Passage), e.admits p = true ↔ e.enabled = true ∧ inside e.pattern p) ∧
    ∀ (t : Trigger) (p : Passage), t.fires p = true ↔ (t.enabled = true ∧ t.armed = true) ∧ inside t.pattern p

/-- The classification: the enabled matching entry of lowest index decides (R25), FORWARD, GOVERN and REFUSE each give
lane, rule index and class (R27, R28, R29), an unmatched request takes the UNMATCHED strap's class (R30), and BYPASS
asks nothing (R32). -/
def Obligations.ClassificationOutcome : Prop :=
  ∀ (p : Passage) (s : State) (m : Mode),
    (m = .bypass → classifyIn m p s = { lane := none, rule := none, screened := false, entryLogs := false }) ∧
    (m ≠ .bypass → (∀ n : RuleId, s.rules[n].admits p = false) →
      classifyIn m p s = { lane := none, rule := none, screened := s.straps.unmatched, entryLogs := false }) ∧
    (m ≠ .bypass → ∀ n : RuleId, s.rules[n].admits p = true → (∀ k < n, s.rules[k].admits p = false) →
      classifyIn m p s =
        { lane := if s.rules[n].action = .govern then some s.rules[n].lane else none
          rule := some n
          screened := decide (s.rules[n].action = .refuse)
          entryLogs := s.rules[n].logRefusals })

/-- Checks 5 and 6 (R29, R31, R39): REFUSED_SCREEN in GOVERN alone; the lane test in GOVERN alone, whose outcome is the
table of R39; every other intended disposition is forward. -/
def Obligations.LaneTestAtTaking : Prop :=
  ∀ (m : Mode) (c : Classified) (s : State),
    (m ≠ .govern → policyIntent m c s = .forward) ∧
    (m = .govern → c.screened = true → policyIntent m c s = .refuse .refusedScreen) ∧
    (m = .govern → c.screened = false → c.lane = none → policyIntent m c s = .forward) ∧
    (m = .govern → c.screened = false → ∀ l, c.lane = some l →
      (s.lanes[l].Credit → s.lanes[l].Concurrency → policyIntent m c s = .forward) ∧
      (s.lanes[l].Credit → ¬ s.lanes[l].Concurrency → policyIntent m c s = .hold .concurrency) ∧
      (¬ s.lanes[l].Credit → s.lanes[l].live.policy = .hold → policyIntent m c s = .hold .budget) ∧
      (¬ s.lanes[l].Credit → s.lanes[l].live.policy = .refuse → policyIntent m c s = .refuse .refusedRate) ∧
      (¬ s.lanes[l].Credit → s.lanes[l].live.policy = .mark → s.lanes[l].Concurrency →
        policyIntent m c s = .forward) ∧
      (¬ s.lanes[l].Credit → s.lanes[l].live.policy = .mark → ¬ s.lanes[l].Concurrency →
        policyIntent m c s = .hold .concurrency))

/-- Checks 7 to 9 for a well-formed request whose tag does not clash (R10, R11, R12, R80, R85, R95): order, then tag and
grant, then room or the full action, then a slot for a refusal. The tag is the lowest-numbered FREE one (R99), and a held
entry is eligible, for an arrival, exactly when a tag is FREE and some entry is judged eligible behind the entries older
than it as they stand (R83, R85, R86). -/
def Obligations.ResourceChecks : Prop :=
  (∀ (r : Request) (s : State) (m : Mode) (p : Passage), s.mode = .operating m → wellFormedRequest r = some p →
    ¬ s.Carries p.tag →
    let c := classifyIn m p s
    let j := judged m p c s
    let room := s.hold.length < 48 ∧ (p.kind = .write → usedBeats s + p.length ≤ 256)
    let slot := s.localQueue.length < 16
    let ordered := ∃ e ∈ s.hold, e.req.requester = p.requester
    j.req = { p with lane := c.lane, rule := c.rule } ∧
    (∀ st, policyIntent m c s = .refuse st → evaluate r s = if slot then .refuse j st else .stall) ∧
    (∀ h, policyIntent m c s = .hold h → room → evaluate r s = .hold j h) ∧
    (policyIntent m c s = .forward → ordered → room → evaluate r s = .hold j .order) ∧
    (policyIntent m c s = .forward → ¬ ordered → lowestFree s = none → room → evaluate r s = .hold j .tags) ∧
    (¬ room → (∃ h, policyIntent m c s = .hold h) ∨
        (policyIntent m c s = .forward ∧ (ordered ∨ lowestFree s = none)) →
      evaluate r s = if s.limits.fullAction = .refuse ∧ slot then .refuse j .refusedFull else .stall) ∧
    (∀ t, policyIntent m c s = .forward → ¬ ordered → lowestFree s = some t →
      evaluate r s = if s.downRequest = none ∧ heldEligible s = false then .forward j t else .stall)) ∧
  (∀ s : State, heldEligible s = true ↔ (∃ t : DownTag, s.tags[t] = .free) ∧
    ∃ n e, s.hold[n]? = some e ∧ (judge s (s.hold.take n) e).isEligible = true) ∧
  ∀ (s : State) (t : DownTag), lowestFree s = some t ↔ s.tags[t] = .free ∧ ∀ u : DownTag, u < t → s.tags[u] ≠ .free

/-- A request that is malformed, or whose upstream tag clashes, is taken and refused with REFUSED_PROTOCOL when a slot is
free, its fault counted with its details as carried, its REFUSAL record written when log refusals is on; the triggers
see a clash and not a malformed request (R8, R9, R125, R144). -/
def Obligations.ProtocolRefusalTaken : Prop :=
  ∀ (o r : Request) (s : State) (m : Mode), s.Evaluates o r → s.mode = .operating m → s.localQueue.length < 16 →
    let base := { s with offered := none, evalDue := false }
    let details : FaultDetails :=
      { requester := some r.requester, tag := some r.tag, downTag := none, address := some r.address, lane := none,
        codes := some (r.kind, r.length) }
    let record := fun u : State =>
      if s.limits.logRefusals then logRecord (.refusal r.fields none none .refusedProtocol .taking) u else u
    let answer := fun u : State =>
      { u with localQueue := s.localQueue ++ [{ tag := r.tag, status := .refusedProtocol }] }
    (wellFormedRequest r = none →
      exec (.requestTaken o) s = .next (answer (record (countFault .malformed details base)))) ∧
    (∀ p, wellFormedRequest r = some p → s.Carries r.tag →
      exec (.requestTaken o) s = .next (answer (record
        (evaluateTriggers p (.refused .refusedProtocol) (countFault .tagClash details base)))))

/-- A request taken as a forward (R2, R13, R44, R47 to R51, R98, R99): the record is on offer downstream with tag `t`, the
entry of `t` is LIVE, its lane counts one more in flight and, outside BYPASS, is charged, with WATERMARK and EXHAUSTED
raised as the charge and the lane test call for. The triggers see it with the disposition shown (R119), a screen mark
writes its SCREEN_MARK record behind the TRIGGER record (R124, R126), and nothing else changes. -/
def Obligations.RequestForwarded : Prop :=
  ∀ (o r : Request) (s : State) (j : Judged) (t : DownTag), s.Evaluates o r → evaluate r s = .forward j t →
    let unpaid := fun l : LaneId => s.mode ≠ .operating .bypass ∧ ¬ s.lanes[l].Credit
    let reached := fun l : LaneId => s.mode ≠ .operating .bypass ∧ s.lanes[l].Reaches j.req.length
    let shown : Shown :=
      if j.screenMark = true then .forwardedScreenMark
      else if ∃ l, j.req.lane = some l ∧ unpaid l then .forwardedMark else .forwarded
    let triggered := evaluateTriggers j.req shown s
    let recorded :=
      if j.screenMark = true then logRecord (.screenMark j.req.record j.req.rule .forwarded) triggered else triggered
    ∃ u, exec (.requestTaken o) s = .next u ∧
      u.offered = none ∧ u.evalDue = false ∧
      u.downRequest = some { requester := j.req.requester, tag := t, kind := j.req.kind, address := j.req.address,
                             length := j.req.length, data := j.req.data } ∧
      u.tags = s.tags.set t (.live
        { tag := j.req.tag, requester := j.req.requester, kind := j.req.kind, address := j.req.address,
          length := j.req.length, lane := j.req.lane, rule := j.req.rule, forwardedAt := s.timebase,
          remaining := s.limits.responseLimit, timeoutPending := false }) ∧
      (∀ l : LaneId, j.req.lane ≠ some l → u.lanes[l] = s.lanes[l]) ∧
      (∀ l : LaneId, j.req.lane = some l →
        u.lanes[l] =
          { (if s.mode = .operating .bypass then s.lanes[l] else s.lanes[l].charged j.req.length) with
            liveCount := s.lanes[l].liveCount + 1
            watermarkReached := decide (s.lanes[l].watermarkReached = true ∨ reached l)
            exhausted := decide (s.lanes[l].exhausted = true ∨ unpaid l) } ∧
        let tested := if unpaid l ∧ s.lanes[l].exhausted = false then raiseExhausted l recorded else recorded
        u.events = (if reached l then raiseWatermark l tested else tested).events) ∧
      (j.req.lane = none → u.events = recorded.events) ∧
      u.triggers = triggered.triggers ∧ u.log = recorded.log ∧
      { u with offered := s.offered, evalDue := s.evalDue, downRequest := s.downRequest, tags := s.tags,
               lanes := s.lanes, triggers := s.triggers, log := s.log, events := s.events } = s

/-- A request taken as a hold (R13, R51, R52, R77, R78, R79, R82): it joins the Hold Queue as its youngest entry, its lane
counts a hold, and its test in GOVERN notes EXHAUSTED when it found no credit; a scan is brought on. The triggers see it as
HELD with its cause (R119), a screen mark writes its SCREEN_MARK record behind the TRIGGER record (R124, R126), and nothing
else changes. -/
def Obligations.RequestHeld : Prop :=
  ∀ (o r : Request) (s : State) (j : Judged) (c : Cause), s.Evaluates o r → evaluate r s = .hold j c →
    let short := fun l : LaneId => s.mode = .operating .govern ∧ ¬ s.lanes[l].Credit
    let triggered := evaluateTriggers j.req (.held c) s
    let recorded :=
      if j.screenMark = true then logRecord (.screenMark j.req.record j.req.rule (.held c)) triggered else triggered
    ∃ u, exec (.requestTaken o) s = .next u ∧
      u.offered = none ∧ u.evalDue = false ∧ u.scanDue = true ∧
      u.hold = s.hold ++ [{ req := j.req, cause := c, takenAt := s.timebase, holdLimit := s.limits.holdLimit,
                            remaining := s.limits.holdLimit, aged := false, forced := false, refusal := none,
                            waited := 0 }] ∧
      (∀ l : LaneId, j.req.lane ≠ some l → u.lanes[l] = s.lanes[l]) ∧
      (∀ l : LaneId, j.req.lane = some l →
        u.lanes[l] = { s.lanes[l] with
          exhausted := decide (s.lanes[l].exhausted = true ∨ short l)
          totalHolds := min 4294967295 (s.lanes[l].totalHolds + 1) } ∧
        u.events = (if short l ∧ s.lanes[l].exhausted = false then raiseExhausted l recorded else recorded).events) ∧
      (j.req.lane = none → u.events = recorded.events) ∧
      u.triggers = triggered.triggers ∧ u.log = recorded.log ∧
      { u with offered := s.offered, evalDue := s.evalDue, scanDue := s.scanDue, hold := s.hold, lanes := s.lanes,
               triggers := s.triggers, log := s.log, events := s.events } = s

/-- A request taken as a refusal by checks 4 to 9 (R13, R15, R51, R52, R95): its local response joins the queue, its lane
counts a refusal, its test in GOVERN notes EXHAUSTED when it found no credit, and HOLD_OVERFLOW is counted for
REFUSED_FULL. The triggers see it as REFUSED with its status (R119); a screen mark refused for want of room writes its
SCREEN_MARK record next (R126), and the REFUSAL record comes last, when log refusals is on, or for a REFUSED_SCREEN by its
matched entry's own flag (R124, R125). Nothing else changes. -/
def Obligations.RequestRefused : Prop :=
  ∀ (o r : Request) (s : State) (j : Judged) (st : Status), s.Evaluates o r → evaluate r s = .refuse j st →
    let short := fun l : LaneId => s.mode = .operating .govern ∧ ¬ s.lanes[l].Credit
    let counted :=
      if st = .refusedFull then
        countFault .holdOverflow
          { requester := some j.req.requester, tag := some j.req.tag, downTag := none, address := some j.req.address,
            lane := j.req.lane, codes := some (j.req.kind.code, BitVec.ofNat 5 j.req.length) } s
      else s
    let triggered := evaluateTriggers j.req (.refused st) counted
    let marked :=
      if j.screenMark = true ∧ st = .refusedFull then
        logRecord (.screenMark j.req.record j.req.rule (.refused st)) triggered
      else triggered
    let recorded :=
      if s.limits.logRefusals = true ∨ (st = .refusedScreen ∧ j.entryLogs = true) then
        logRecord (.refusal j.req.record j.req.lane j.req.rule st .taking) marked
      else marked
    ∃ u, exec (.requestTaken o) s = .next u ∧
      u.offered = none ∧ u.evalDue = false ∧
      u.localQueue = s.localQueue ++ [{ tag := j.req.tag, status := st }] ∧
      (∀ l : LaneId, j.req.lane ≠ some l → u.lanes[l] = s.lanes[l]) ∧
      (∀ l : LaneId, j.req.lane = some l →
        u.lanes[l] = { s.lanes[l] with
          exhausted := decide (s.lanes[l].exhausted = true ∨ short l)
          totalRefusals := min 4294967295 (s.lanes[l].totalRefusals + 1) } ∧
        u.events = (if short l ∧ s.lanes[l].exhausted = false then raiseExhausted l recorded else recorded).events) ∧
      (j.req.lane = none → u.events = recorded.events) ∧
      u.faults = counted.faults ∧ u.triggers = triggered.triggers ∧ u.log = recorded.log ∧
      { u with offered := s.offered, evalDue := s.evalDue, localQueue := s.localQueue, lanes := s.lanes,
               faults := s.faults, triggers := s.triggers, log := s.log, events := s.events } = s

/-- A stall leaves no trace but the offer (R6): in a state other than an operating mode (R7), or when the checks give no
disposition whose needs are met. That a command which finds a record standing offered, with no evaluation brought on,
changes nothing, and that the record it brings itself is then not seen, are the model's choice (log 4, log 6). -/
def Obligations.StallLeavesNoTrace : Prop :=
  (∀ (o r : Request) (s : State), s.Evaluates o r → (∀ m, s.mode ≠ .operating m) → evaluate r s = .stall) ∧
    (∀ (o r : Request) (s : State), s.Evaluates o r → evaluate r s = .stall →
      exec (.requestTaken o) s = .next { s with offered := some r, evalDue := false }) ∧
    ∀ (o r : Request) (s : State), s.phase = .running → s.offered = some r → s.evalDue = false →
      exec (.requestTaken o) s = .next s

/-- The triggers' evaluation (R119, R120): matches give one TRIGGER record with the set of all that matched and disarm the
ONCE and FIRST_IN_PERIOD ones among them; without a match nothing changes. -/
def Obligations.TriggersEvaluated : Prop :=
  ∀ (p : Passage) (shown : Shown) (s : State),
    ((∀ t : TriggerId, s.triggers[t].fires p = false) → evaluateTriggers p shown s = s) ∧
    ((∃ t : TriggerId, s.triggers[t].fires p = true) →
      ∃ set : BitVec 8, (∀ t : TriggerId, set.getLsbD t = s.triggers[t].fires p) ∧
        (∀ t : TriggerId, (evaluateTriggers p shown s).triggers[t] =
          if s.triggers[t].fires p ∧ s.triggers[t].mode ≠ .every then { s.triggers[t] with armed := false }
          else s.triggers[t]) ∧
        (evaluateTriggers p shown s).log = (logRecord (.trigger p.record p.lane p.rule set shown) s).log ∧
        (evaluateTriggers p shown s).events = (logRecord (.trigger p.record p.lane p.rule set shown) s).events ∧
        { evaluateTriggers p shown s with triggers := s.triggers, log := s.log, events := s.events } = s)

/-! ## Credit -/

/-- The charge of `cost` beats (R47, R48, R49): with credit it raises consumed and total forwarded and lowers a METERED
balance; without credit it raises the overrun counts too and lowers a METERED balance no further than −15; an OPEN or a
CLOSED lane's balance stays. -/
def Obligations.ChargeByCredit : Prop :=
  ∀ (l : Lane) (cost : Nat),
    (l.charged cost).consumed = min 4294967295 (l.consumed + cost) ∧
    (l.charged cost).totalForwarded = l.totalForwarded + BitVec.ofNat 48 cost ∧
    (l.Credit → (l.charged cost).overrun = min 4294967295 l.overrun ∧
      (l.charged cost).totalOverrun = min 4294967295 l.totalOverrun ∧
      (l.charged cost).balance = if l.live.kind = .metered then l.balance - cost else l.balance) ∧
    (¬ l.Credit → (l.charged cost).overrun = min 4294967295 (l.overrun + cost) ∧
      (l.charged cost).totalOverrun = min 4294967295 (l.totalOverrun + cost) ∧
      (l.charged cost).balance = if l.live.kind = .metered then max (l.balance - cost) (-15) else l.balance) ∧
    { l.charged cost with balance := l.balance, consumed := l.consumed, overrun := l.overrun,
                          totalForwarded := l.totalForwarded, totalOverrun := l.totalOverrun } = l

/-- What a charge on lane `l` raises (R50, R51): WATERMARK with the lane when consumed reaches the watermark for the
first time in the period, EXHAUSTED with the lane when it is the period's first without credit; the lane's flags say so,
and no other lane changes. -/
def Obligations.ChargeRaisesOncePerPeriod : Prop :=
  ∀ (l : LaneId) (cost : Nat) (s : State),
    let x := s.lanes[l]
    let reached := x.watermarkReached = false ∧ ∃ w, x.live.watermark = some w ∧ w ≤ (x.charged cost).consumed
    let short := x.exhausted = false ∧ ¬ x.Credit
    (charge l cost s).lanes[l] = { x.charged cost with
      watermarkReached := decide (x.watermarkReached = true ∨ reached)
      exhausted := decide (x.exhausted = true ∨ short) } ∧
    (∀ k : LaneId, k ≠ l → (charge l cost s).lanes[k] = s.lanes[k]) ∧
    (¬ reached → ¬ short → (charge l cost s).events = s.events) ∧
    (reached → ¬ short → (charge l cost s).events = (raiseWatermark l s).events) ∧
    (¬ reached → short → (charge l cost s).events = (raiseExhausted l s).events) ∧
    (reached → short → (charge l cost s).events = (raiseWatermark l (raiseExhausted l s)).events)

/-- The replenishment of a lane (R53, R54, R71): last period consumed takes consumed; under a commit the staged record
becomes live; a METERED lane refills to its budget plus its debt, any other to its budget; the period state clears, and
the live count, the staged record and the other statistics stay. -/
def Obligations.ReplenishmentRefills : Prop :=
  ∀ (commit : Bool) (l : Lane),
    let c := if commit then l.staged else l.live
    l.replenished commit =
      { live := c, staged := l.staged,
        balance := if c.kind = .metered then (if l.balance < 0 then c.budget + l.balance else c.budget) else c.budget,
        consumed := 0, overrun := 0, watermarkReached := false, exhausted := false, liveCount := l.liveCount,
        lastConsumed := l.consumed, totalForwarded := l.totalForwarded, totalHolds := l.totalHolds,
        totalRefusals := l.totalRefusals, totalOverrun := l.totalOverrun }

/-! ## The Timebase and the period generators -/

/-- A tick (R59, R60, R62, R90, R107): the Timebase advances by one, and every countdown that runs falls by one; a
generator whose countdown would reach 0 is due to expire instead. The tick waits, and changes nothing, while an event of
the last one is still to come (the model's choice, log 5): an expiry of a generator, the warning or the expiry of a held
entry, a response deadline, the end of the quiesce timer. -/
def Obligations.TickAdvancesEveryCountdown : Prop :=
  ∀ s : State, s.phase = .running →
    (tickDue s = true ↔
      (∃ g : Gen, s.gens[g].expiring = true) ∨
      (∃ e ∈ s.hold, e.forced = false ∧ e.refusal = none ∧
        (e.remaining = 0 ∨ (e.aged = false ∧ e.holdLimit / 2 ≠ 0 ∧ e.remaining = e.holdLimit / 2))) ∨
      (∃ (t : DownTag) (f : Flight), s.tags[t] = .live f ∧ f.timeoutPending = false ∧ f.remaining = some 0) ∨
      (s.mode = .quiescing ∧ s.quiesceTimer = some 0)) ∧
    (tickDue s = false → ∃ u, exec .timebaseTick s = .next u ∧
      u.timebase = s.timebase + 1 ∧
      (∀ g : Gen, u.gens[g] = if s.gens[g].remaining ≤ 1 then { s.gens[g] with expiring := true }
        else { s.gens[g] with remaining := s.gens[g].remaining - 1 }) ∧
      u.hold = s.hold.map (fun e => { e with
        remaining := if e.forced = true ∨ e.refusal ≠ none then e.remaining else e.remaining - 1
        waited := min 4294967295 (e.waited + 1) }) ∧
      (∀ (t : DownTag) (f : Flight), s.tags[t] = .live f →
        u.tags[t] = .live (if f.timeoutPending then f else { f with remaining := f.remaining.map (· - 1) })) ∧
      (∀ t : DownTag, s.tags[t].isLive = false → u.tags[t] = s.tags[t]) ∧
      u.quiesceTimer = s.quiesceTimer.map (· - 1) ∧
      { u with timebase := s.timebase, gens := s.gens, hold := s.hold, tags := s.tags,
               quiesceTimer := s.quiesceTimer } = s) ∧
    (tickDue s = true → exec .timebaseTick s = .next s)

/-- An expiry of a generator whose countdown has run out (R53, R56, R62, R63, R64, R70, R71): the generator counts it,
applies a pending commit, reloads and raises COMMIT_DONE; every lane bound to it is replenished under the commit the
expiry carries, with its PERIOD_SUMMARY in ascending lane order; its FIRST_IN_PERIOD triggers are armed. That all
of it is one step is the model's reading (log 21), and the mark `expiring` of an expiry that is due is its own (log 5). -/
def Obligations.GeneratorExpires : Prop :=
  ∀ (g : Gen) (s : State), s.phase = .running → s.gens[g].expiring = true →
    let x := s.gens[g]
    let period := if x.commitPending then x.stagedPeriod else x.livePeriod
    let summaries := (List.finRange 16).filterMap (fun l =>
      if s.lanes[l].live.gen = g ∧ s.lanes[l].live.summary = true then
        some (RecordBody.periodSummary l g s.lanes[l].consumed s.lanes[l].balance s.lanes[l].overrun)
      else none)
    let logged := summaries.foldl (fun v b => logRecord b v) (if x.commitPending then raiseCommitDone g s else s)
    ∃ u, exec (.periodGeneratorExpiry g) s = .next u ∧
      u.gens = s.gens.set g { x with livePeriod := period, remaining := period, expiries := x.expiries + 1,
                                     commitPending := false, expiring := false } ∧
      (∀ l : LaneId, u.lanes[l] =
        if s.lanes[l].live.gen = g then s.lanes[l].replenished x.commitPending else s.lanes[l]) ∧
      (∀ t : TriggerId, u.triggers[t] =
        if s.triggers[t].enabled = true ∧ s.triggers[t].mode = .firstInPeriod ∧ s.triggers[t].gen = g then
          { s.triggers[t] with armed := true }
        else s.triggers[t]) ∧
      u.log = logged.log ∧ u.events = logged.events ∧
      (∀ l : LaneId, s.lanes[l].live.gen = g →
        u.scanDue = (s.scanDue || !s.hold.isEmpty) ∧ u.evalDue = (s.evalDue || s.offered.isSome)) ∧
      ((∀ l : LaneId, s.lanes[l].live.gen ≠ g) → u.scanDue = s.scanDue ∧ u.evalDue = s.evalDue) ∧
      { u with gens := s.gens, lanes := s.lanes, triggers := s.triggers, log := s.log, events := s.events,
               scanDue := s.scanDue, evalDue := s.evalDue } = s

/-! ## The Hold Queue -/

/-- The judgement of a held entry behind the entries `older` (R80, R83, R84, R39): refusal pending or blocked, it stays;
forced, or without a lane, it is eligible; with a lane it is eligible in BYPASS and MONITOR and meets the lane test in
GOVERN; a transitional state judges by the resume mode. -/
def Obligations.HeldEntryJudged : Prop :=
  ∀ (s : State) (older : List HoldEntry) (e : HoldEntry),
    let stays := e.refusal ≠ none ∨ ∃ x ∈ older, x.req.requester = e.req.requester ∧ x.refusal = none
    let mode := match s.mode with
      | .operating m => m
      | _ => s.resume
    (stays → judge s older e = .stays false) ∧
    (¬ stays → e.forced = true ∨ e.req.lane = none → judge s older e = .eligible false) ∧
    (¬ stays → mode ≠ .govern → judge s older e = .eligible false) ∧
    (¬ stays → e.forced = false → mode = .govern → ∀ l, e.req.lane = some l →
      (s.lanes[l].Credit → s.lanes[l].Concurrency → judge s older e = .eligible false) ∧
      (s.lanes[l].Credit → ¬ s.lanes[l].Concurrency → judge s older e = .stays false) ∧
      (¬ s.lanes[l].Credit → s.lanes[l].live.policy = .hold → judge s older e = .stays true) ∧
      (¬ s.lanes[l].Credit → s.lanes[l].live.policy = .refuse → judge s older e = .refused) ∧
      (¬ s.lanes[l].Credit → s.lanes[l].live.policy = .mark → s.lanes[l].Concurrency →
        judge s older e = .eligible true) ∧
      (¬ s.lanes[l].Credit → s.lanes[l].live.policy = .mark → ¬ s.lanes[l].Concurrency →
        judge s older e = .stays true))

/-- A release scan judges every entry, oldest first, behind the older ones as it has left them; an entry its lane refuses
becomes refusal pending with REFUSED_RATE, every other stays as it was; the scan's result is the oldest eligible entry, and
it lists the lanes that a test found without credit (R51, R81, R84). That the younger entries are judged by the state
before the grant is the model's reading (log 8), and so is that the scan refuses and has a result whatever the tag supply,
which the grant alone asks for (log 9). -/
def Obligations.ScanJudgesOldestFirst : Prop :=
  ∀ (s : State) (k : Nat) (e : HoldEntry), s.hold[k]? = some e →
    let r := scan s [] s.hold
    let verdict := fun (n : Nat) (x : HoldEntry) => judge s (r.entries.take n) x
    r.entries.length = s.hold.length ∧
    r.entries[k]? = some (if verdict k e = .refused then { e with refusal := some .rate } else e) ∧
    (r.first = some k ↔ (verdict k e).isEligible = true ∧
      ∀ i < k, ∀ x, s.hold[i]? = some x → (verdict i x).isEligible = false) ∧
    ∀ l : LaneId, l ∈ r.shorts ↔ ∃ i x, s.hold[i]? = some x ∧ x.req.lane = some l ∧
      (verdict i x = .stays true ∨ verdict i x = .eligible true ∨ verdict i x = .refused)

/-- A release scan that has been brought on (R51, R81, R82, R84 to R87): the lanes tested short of credit are noted
exhausted, each with one EXHAUSTED for the period; with the channel free and a tag FREE, the oldest eligible entry is
released: it is on offer downstream with the lowest FREE tag, LIVE, charged by the mode in force (the resume mode in a
transitional state), and out of the queue; without them no entry is granted. A refusal decided and a release each bring on
the next scan and an evaluation. The tests are those of `ScanJudgesOldestFirst`, made before the grant and whatever the tag
supply (the model's reading, log 8 and log 9). -/
def Obligations.ReleaseScanGrantsOldestEligible : Prop :=
  ∀ s : State, s.phase = .running → s.scanDue = true →
    let r := scan s [] s.hold
    let fresh := (List.finRange 16).filter (fun l : LaneId => decide (l ∈ r.shorts) && !s.lanes[l].exhausted)
    let raised : State := fresh.foldl (fun v l => raiseExhausted l v) s
    let noted : LaneId → Lane := fun l =>
      { s.lanes[l] with exhausted := decide (s.lanes[l].exhausted = true ∨ l ∈ r.shorts) }
    let mode : Mode := match s.mode with
      | .operating m => m
      | _ => s.resume
    ∃ u, exec .releaseScan s = .next u ∧
      (s.downRequest ≠ none ∨ lowestFree s = none ∨ r.first = none →
        u.hold = r.entries ∧ (∀ l : LaneId, u.lanes[l] = noted l) ∧ u.events = raised.events ∧
        u.scanDue = decide (r.entries ≠ s.hold) ∧
        u.evalDue = (s.evalDue || (decide (r.entries ≠ s.hold) && s.offered.isSome)) ∧
        { u with hold := s.hold, lanes := s.lanes, events := s.events, scanDue := s.scanDue, evalDue := s.evalDue }
          = s) ∧
      (∀ (t : DownTag) (n : Nat) (e : HoldEntry), s.downRequest = none → lowestFree s = some t → r.first = some n →
        s.hold[n]? = some e →
        let unpaid := fun l : LaneId => mode ≠ .bypass ∧ ¬ s.lanes[l].Credit
        let reached := fun l : LaneId => mode ≠ .bypass ∧ s.lanes[l].Reaches e.req.length
        u.hold = r.entries.eraseIdx n ∧
        u.downRequest = some { requester := e.req.requester, tag := t, kind := e.req.kind, address := e.req.address,
                               length := e.req.length, data := e.req.data } ∧
        u.tags = s.tags.set t (.live
          { tag := e.req.tag, requester := e.req.requester, kind := e.req.kind, address := e.req.address,
            length := e.req.length, lane := e.req.lane, rule := e.req.rule, forwardedAt := s.timebase,
            remaining := s.limits.responseLimit, timeoutPending := false }) ∧
        (∀ l : LaneId, e.req.lane ≠ some l → u.lanes[l] = noted l) ∧
        (∀ l : LaneId, e.req.lane = some l →
          u.lanes[l] =
            { (if mode = .bypass then s.lanes[l] else s.lanes[l].charged e.req.length) with
              liveCount := s.lanes[l].liveCount + 1
              watermarkReached := decide (s.lanes[l].watermarkReached = true ∨ reached l)
              exhausted := decide (s.lanes[l].exhausted = true ∨ l ∈ r.shorts ∨ unpaid l) } ∧
          let tested := if unpaid l ∧ s.lanes[l].exhausted = false ∧ l ∉ r.shorts then raiseExhausted l raised else raised
          u.events = (if reached l then raiseWatermark l tested else tested).events) ∧
        (e.req.lane = none → u.events = raised.events) ∧
        u.scanDue = !u.hold.isEmpty ∧ u.evalDue = (s.evalDue || s.offered.isSome) ∧
        { u with hold := s.hold, downRequest := s.downRequest, tags := s.tags, lanes := s.lanes, events := s.events,
                 scanDue := s.scanDue, evalDue := s.evalDue } = s)

/-- The oldest refusal pending entry takes a slot (R52, R92, R93, R94, R125): its response is queued with its status and
it leaves; REFUSED_RATE counts on its lane and is logged when log refusals is on, EXPIRED writes its HOLD_EXPIRY record;
then the completions are judged (R155, R160). -/
def Obligations.RefusalPendingLeaves : Prop :=
  ∀ (s : State) (older younger : List HoldEntry) (e : HoldEntry), s.phase = .running → s.localQueue.length < 16 →
    s.hold = older ++ e :: younger → (∀ x ∈ older, x.refusal = none) →
    let out := fun st : Status =>
      { s with hold := older ++ younger, localQueue := s.localQueue ++ [{ tag := e.req.tag, status := st }] }
    let counted := match e.req.lane with
      | none => out .refusedRate
      | some l =>
        let lane := { s.lanes[l] with totalRefusals := min 4294967295 (s.lanes[l].totalRefusals + 1) }
        { out .refusedRate with lanes := s.lanes.set l lane }
    (e.refusal = some .withdrawn →
      exec .refusalPendingQueued s = .next (judgeDrained (bringOn (out .withdrawn)))) ∧
    (e.refusal = some .expired →
      exec .refusalPendingQueued s = .next (judgeDrained (bringOn
        (logRecord (.holdExpiry e.req.record e.req.lane e.req.rule .expired e.cause e.waited) (out .expired))))) ∧
    (e.refusal = some .rate →
      exec .refusalPendingQueued s = .next (judgeDrained (bringOn
        (if s.limits.logRefusals then
          logRecord (.refusal e.req.record e.req.lane e.req.rule .refusedRate .release) counted
         else counted))))

/-- The events of a held entry's countdown (R90, R91, R92): the half-way warning; an expiry under FORCE, which forces the
entry and its requester's older ones that are not refusal pending, with one fault, one event and one record; an expiry
under REFUSE, which makes the entry refusal pending with EXPIRED. -/
def Obligations.HeldEntryAgesAndExpires : Prop :=
  ∀ (n : Fin 48) (s : State) (e : HoldEntry), s.phase = .running → s.hold[n.val]? = some e → e.forced = false →
    e.refusal = none →
    let details : FaultDetails :=
      { requester := some e.req.requester, tag := some e.req.tag, downTag := none, address := some e.req.address,
        lane := e.req.lane, codes := none }
    let record : RecordBody := .holdExpiry e.req.record e.req.lane e.req.rule .forced e.cause e.holdLimit
    (e.aged = false → e.remaining = e.holdLimit / 2 → e.remaining ≠ 0 →
      exec (.holdAged n) s =
        .next { s with hold := s.hold.set n { e with aged := true }, events := s.events.raise .holdAged }) ∧
    (e.remaining = 0 → s.limits.expiryAction = .force →
      exec (.holdExpiryForce n) s = .next (bringOn (logRecord record
        { s with
          hold := s.hold.mapIdx (fun i x =>
            if i ≤ n.val ∧ x.req.requester = e.req.requester ∧ x.refusal = none then
              { x with forced := true, remaining := 0 }
            else x)
          faults := s.faults.counted .holdExpired details s.timebase
          events := (s.events.raise .fault).raise .holdExpired }))) ∧
    (e.remaining = 0 → s.limits.expiryAction = .refuse →
      exec (.holdExpiryRefuse n) s = .next (bringOn
        { s with
          hold := s.hold.set n { e with refusal := some .expired }
          faults := s.faults.counted .holdExpired details s.timebase
          events := (s.events.raise .fault).raise .holdExpired }))

/-! ## The channels and the In-Flight Table -/

/-- The partners' takings (R1, R3, R17, R85): the memory controller's frees the downstream request channel and brings on
a scan and an evaluation; the requester side's frees the upstream response channel, and the downstream response channel
with it when the response was relayed; a stray beat changes nothing. -/
def Obligations.ChannelsFreed : Prop :=
  ∀ s : State, s.phase = .running →
    (∀ d, s.downRequest = some d → exec .downstreamRequestTaken s = .next (bringOn { s with downRequest := none })) ∧
    (∀ x, s.upResponse = some x →
      exec .upstreamResponseTaken s = .next { s with
        upResponse := none
        downResponse := if x.source = .memorySide then none else s.downResponse }) ∧
    ∀ b, exec (.strayBeatDiscard b) s = .next s

/-- A response deadline and its timeout (R107, R108, R112): the entry becomes timeout pending; when its claim takes a
slot, TIMED_OUT is queued, the entry becomes ORPHANED with its fields, its lane's live count falls, the fault, the event
and the record follow, TAGS_LOW when the orphan count reaches the alarm level, and the completions are judged. -/
def Obligations.ResponseTimesOut : Prop :=
  ∀ (t : DownTag) (f : Flight) (s : State), s.phase = .running → s.tags[t] = .live f →
    (f.timeoutPending = false → f.remaining = some 0 →
      exec (.responseDeadline t) s =
        .next { s with tags := s.tags.set t (.live { f with timeoutPending := true }) }) ∧
    (f.timeoutPending = true → s.localQueue.length < 16 →
      let logged := logRecord (.timeout f.record f.lane f.rule t) (raise .responseTimeout (raise .fault s))
      ∃ v, exec (.responseTimeout t) s = .next (judgeDrained v) ∧
        v.localQueue = s.localQueue ++ [{ tag := f.tag, status := .timedOut }] ∧
        v.tags = s.tags.set t (.orphaned { f with remaining := none, timeoutPending := false }) ∧
        (∀ l : LaneId, v.lanes[l] = if f.lane = some l then
          { s.lanes[l] with liveCount := s.lanes[l].liveCount - 1 } else s.lanes[l]) ∧
        v.faults = s.faults.counted .responseTimeout
          { requester := some f.requester, tag := some f.tag, downTag := some t, address := some f.address,
            lane := f.lane, codes := none } s.timebase ∧
        v.log = logged.log ∧
        v.events = (if orphanCount s + 1 = s.limits.orphanAlarm then raise .tagsLow logged else logged).events ∧
        v.scanDue = (s.scanDue || !s.hold.isEmpty) ∧ v.evalDue = (s.evalDue || s.offered.isSome) ∧
        { v with localQueue := s.localQueue, tags := s.tags, lanes := s.lanes, faults := s.faults, log := s.log,
                 events := s.events, scanDue := s.scanDue, evalDue := s.evalDue } = s)

/-- The relay of the response at the head of the downstream response channel, whose tag is LIVE (R4, R17, R18, R101,
R102): when the Response Merger grants the memory side, the response is on offer upstream with the entry's upstream tag,
its status and its data, the entry is FREE, its lane's live count falls, the turn names the local side, and the completions
are judged; without the grant the response waits at the head; while a response is being relayed no other is looked at. That
each of the three rows brings a response, and that R101 judges the one at the head whichever row brings one, are the
model's choice (log 7). -/
def Obligations.ResponseRelayed : Prop :=
  ∀ row ∈ [Instr.responseRelay, Instr.orphanReturn, Instr.unknownResponse], ∀ (m : MemResponse) (s : State),
    s.phase = .running →
    let h := s.downResponse.getD m
    (∀ f, s.tags[h.tag] = .live f →
      (s.upResponse = none → s.localQueue = [] ∨ s.turn = .memorySide →
        exec (row m) s = .next (judgeDrained (bringOn
          { s with
            downResponse := some h
            upResponse := some
              { tag := f.tag
                status := match h.answer with
                  | .okay _ => .okay
                  | .memoryError => .memoryError
                data := match h.answer with
                  | .okay d => d
                  | .memoryError => []
                source := .memorySide }
            turn := .localSide
            tags := s.tags.set h.tag .free
            lanes := match f.lane with
              | none => s.lanes
              | some l => s.lanes.set l { s.lanes[l] with liveCount := s.lanes[l].liveCount - 1 } }))) ∧
      (∀ x, s.upResponse = some x → x.source = .localSide →
        exec (row m) s = .next { s with downResponse := some h }) ∧
      (s.upResponse = none → s.localQueue ≠ [] → s.turn = .localSide →
        exec (row m) s = .next { s with downResponse := some h })) ∧
    ∀ x, s.upResponse = some x → x.source = .memorySide → exec (row m) s = .next s

/-- The response at the head whose tag is ORPHANED is late: it is taken at once and discarded, its tag becomes FREE,
ORPHAN_RETURN is raised and an ORPHAN record written (R101, R103, R105). One whose tag is FREE is unknown: it is taken at
once and discarded, and UNKNOWN_RESPONSE counted (R101, R104). Neither needs the upstream response channel, but while a
response is being relayed the ones behind it wait (R17). That each of the three rows brings a response, and that R101
judges the one at the head whichever row brings one, are the model's choice (log 7). -/
def Obligations.LateAndUnknownResponsesDiscarded : Prop :=
  ∀ row ∈ [Instr.responseRelay, Instr.orphanReturn, Instr.unknownResponse], ∀ (m : MemResponse) (s : State),
    s.phase = .running →
    let h := s.downResponse.getD m
    ((∀ x, s.upResponse = some x → x.source = .localSide) →
      (∀ f, s.tags[h.tag] = .orphaned f →
        exec (row m) s = .next (bringOn (logRecord (.orphan f.record f.lane f.rule h.tag)
          { s with downResponse := none, tags := s.tags.set h.tag .free, events := s.events.raise .orphanReturn }))) ∧
      (s.tags[h.tag] = .free →
        exec (row m) s = .next
          { s with
            downResponse := none
            faults := s.faults.counted .unknownResponse
              { requester := none, tag := none, downTag := some h.tag, address := none, lane := none, codes := none }
              s.timebase
            events := s.events.raise .fault })) ∧
    ∀ x, s.upResponse = some x → x.source = .memorySide → exec (row m) s = .next s

/-- The oldest local response is granted the free upstream response channel, unless a response for a LIVE tag waits and
the turn names the memory side (R15, R18): it is on offer without data, its slot is free, the turn names the memory
side. While the channel is held, and while the memory side waits and has the turn, the local side waits and nothing
changes; so it does with nothing queued. -/
def Obligations.LocalResponseGranted : Prop :=
  ∀ s : State, s.phase = .running →
    let memoryWaits := ∃ h, s.downResponse = some h ∧ s.tags[h.tag].isLive = true
    (∀ (x : LocalResponse) (rest : List LocalResponse), s.localQueue = x :: rest → s.upResponse = none →
      ¬ memoryWaits ∨ s.turn = .localSide →
      exec .localResponseSent s = .next
        { s with
          upResponse := some { tag := x.tag, status := x.status, data := [], source := .localSide }
          localQueue := rest
          turn := .memorySide
          evalDue := (s.evalDue || s.offered.isSome) }) ∧
    (s.localQueue = [] ∨ s.upResponse ≠ none ∨ (memoryWaits ∧ s.turn = .memorySide) →
      exec .localResponseSent s = .next s)

/-! ## Events, faults and the Capture Log -/

/-- A raise (R134): the flag is set and its raise count one higher modulo 256, its mask and every other flag as they were;
a raise with a member adds the member to its own set and leaves the other two; ALERT plays no part in it, and nothing
outside the Event Unit changes. -/
def Obligations.RaiseSetsAndCounts : Prop :=
  (∀ (f : Flag) (e : Events) (i : Fin 13),
    (e.raise f).flags[i] = (if i = f.code then
      { set := true, raises := BitVec.ofNat 8 ((e.flags[i]).raises.toNat + 1), enabled := (e.flags[i]).enabled }
      else e.flags[i]) ∧
    (e.raise f).watermarkLanes = e.watermarkLanes ∧ (e.raise f).exhaustedLanes = e.exhaustedLanes ∧
    (e.raise f).commitGens = e.commitGens) ∧
  (∀ (f : Flag) (s : State), raise f s = { s with events := s.events.raise f }) ∧
  (∀ (l : LaneId) (s : State),
    (∀ k : LaneId, (raiseWatermark l s).events.watermarkLanes.getLsbD k =
      (s.events.watermarkLanes.getLsbD k || decide (k = l))) ∧
    (raiseWatermark l s).events.flags = (s.events.raise .watermark).flags ∧
    (raiseWatermark l s).events.exhaustedLanes = s.events.exhaustedLanes ∧
    (raiseWatermark l s).events.commitGens = s.events.commitGens ∧
    { raiseWatermark l s with events := s.events } = s) ∧
  (∀ (l : LaneId) (s : State),
    (∀ k : LaneId, (raiseExhausted l s).events.exhaustedLanes.getLsbD k =
      (s.events.exhaustedLanes.getLsbD k || decide (k = l))) ∧
    (raiseExhausted l s).events.flags = (s.events.raise .exhausted).flags ∧
    (raiseExhausted l s).events.watermarkLanes = s.events.watermarkLanes ∧
    (raiseExhausted l s).events.commitGens = s.events.commitGens ∧
    { raiseExhausted l s with events := s.events } = s) ∧
  (∀ (g : Gen) (s : State),
    (∀ k : Gen, (raiseCommitDone g s).events.commitGens.getLsbD k =
      (s.events.commitGens.getLsbD k || decide (k = g))) ∧
    (raiseCommitDone g s).events.flags = (s.events.raise .commitDone).flags ∧
    (raiseCommitDone g s).events.watermarkLanes = s.events.watermarkLanes ∧
    (raiseCommitDone g s).events.exhaustedLanes = s.events.exhaustedLanes ∧
    { raiseCommitDone g s with events := s.events } = s)

/-- A fault (R141, R143): its kind's counter rises by one and stays at 65,535, every other counter stays; an empty Fault
Record takes its kind, the Timebase value and its details, and a full one keeps what it holds; FAULT is raised. ALERT is
asserted exactly while a set flag has its mask enabled (R137). -/
def Obligations.FaultCountsAndRecords : Prop :=
  (∀ (k : FaultKind) (d : FaultDetails) (s : State),
    (∀ i : Fin 8, (countFault k d s).faults.counts[i] =
      if i = k.code then min 65535 (s.faults.counts[i] + 1) else s.faults.counts[i]) ∧
    (s.faults.record = none →
      (countFault k d s).faults.record = some { kind := k, timestamp := s.timebase, details := d }) ∧
    (∀ x, s.faults.record = some x → (countFault k d s).faults.record = some x) ∧
    (countFault k d s).events = s.events.raise .fault ∧
    { countFault k d s with faults := s.faults, events := s.events } = s) ∧
  ∀ s : State, alert s = true ↔ ∃ i : Fin 13, (s.events.flags[i]).set = true ∧ (s.events.flags[i]).enabled = true

/-- A record reaches the Capture Log (R123, R124, R128, R129, R130): it takes the next sequence number, which advances
modulo 65,536, and the Timebase value; with room it is stored at the young end, and LOG_LEVEL is raised when the count
rises to the threshold; at 64 records it is lost under STOP, or takes the oldest's place under WRAP, and either way one
loss is counted and LOG_LOST raised. -/
def Obligations.LogStoresOrLoses : Prop :=
  ∀ (b : RecordBody) (s : State),
    let r : CaptureRecord := { seq := s.log.next, timestamp := s.timebase, body := b }
    (logRecord b s).log.next = BitVec.ofNat 16 (s.log.next.toNat + 1) ∧
    (s.log.records.length < 64 →
      (logRecord b s).log.records = s.log.records ++ [r] ∧ (logRecord b s).log.lost = s.log.lost ∧
      (logRecord b s).events =
        if s.log.records.length + 1 = s.limits.logThreshold then s.events.raise .logLevel else s.events) ∧
    (64 ≤ s.log.records.length →
      (logRecord b s).log.records =
        (if s.limits.logPolicy = .stop then s.log.records else s.log.records.tail ++ [r]) ∧
      (logRecord b s).log.lost = min 65535 (s.log.lost + 1) ∧ (logRecord b s).events = s.events.raise .logLost) ∧
    { logRecord b s with log := s.log, events := s.events } = s

/-! ## The Mode Controller -/

/-- The completions (R58, R74, R120, R155, R160): QUIESCING with nothing held and nothing LIVE becomes QUIESCED with
QUIESCE_DONE and the timer stopped; RESTARTING with nothing held restarts lanes, generators and triggers, raises
RESTART_DONE and enters the resume mode; otherwise nothing completes. That the restart of
a generator takes back an expiry that is due at the same tick is the model's reading (log 17). -/
def Obligations.DrainedStatesComplete : Prop :=
  ∀ s : State,
    let drained := s.mode = .quiescing ∧ s.hold = [] ∧ ∀ t : DownTag, s.tags[t].isLive = false
    let emptied := s.mode = .restarting ∧ s.hold = []
    (drained → judgeDrained s = { s with
      mode := .quiesced, quiesceTimer := none, events := s.events.raise .quiesceDone,
      evalDue := (s.evalDue || s.offered.isSome) }) ∧
    (emptied →
      (judgeDrained s).mode = .operating s.resume ∧ (judgeDrained s).events = s.events.raise .restartDone ∧
      (∀ l : LaneId, (judgeDrained s).lanes[l] = { s.lanes[l] with
        balance := s.lanes[l].live.budget, consumed := 0, overrun := 0, watermarkReached := false, exhausted := false,
        lastConsumed := 0 }) ∧
      (∀ g : Gen, (judgeDrained s).gens[g] = { s.gens[g] with
        remaining := s.gens[g].livePeriod, commitPending := false, expiring := false }) ∧
      (∀ t : TriggerId, (judgeDrained s).triggers[t] =
        if s.triggers[t].enabled = true ∧ s.triggers[t].mode ≠ .every then { s.triggers[t] with armed := true }
        else s.triggers[t]) ∧
      (judgeDrained s).evalDue = (s.evalDue || s.offered.isSome) ∧
      { judgeDrained s with mode := s.mode, events := s.events, lanes := s.lanes, gens := s.gens,
                            triggers := s.triggers, evalDue := s.evalDue } = s) ∧
    (¬ drained → ¬ emptied → judgeDrained s = s)

/-- A request of BYPASS, MONITOR or GOVERN in an operating mode makes the named mode the state and the resume mode,
answers OK, and brings on a scan and an evaluation unless the mode is already in force (R151, R152). -/
def Obligations.ModeRequestsAccepted : Prop :=
  ∀ (f : Frame) (s : State) (now : Mode), f.Received .write s → f.Verifies .write .mode → f.index = 0 →
    s.mode = .operating now →
    let after := fun m : Mode =>
      State.answered f .ok [] (if now = m then { s with resume := m }
        else bringOn { s with mode := .operating m, resume := m })
    (f.payload = [0] → exec (.modeBypass f) s = .next (after .bypass)) ∧
    (f.payload = [1] → exec (.modeMonitor f) s = .next (after .monitor)) ∧
    (f.payload = [2] → exec (.modeGovern f) s = .next (after .govern))

/-- A QUIESCE in an operating mode enters QUIESCING with the timer at the quiesce limit, and completes in its own event
when nothing is held or LIVE (R154, R155); a RESUME in QUIESCING or QUIESCED returns to the resume mode and stops the
timer (R158). -/
def Obligations.QuiesceAndResumeAccepted : Prop :=
  ∀ (f : Frame) (s : State), f.Received .write s → f.Verifies .write .mode → f.index = 0 →
    let drained := s.hold = [] ∧ ∀ t : DownTag, s.tags[t].isLive = false
    (f.payload = [3] → ∀ now, s.mode = .operating now → ¬ drained →
      exec (.quiesce f) s = .next (State.answered f .ok [] (bringOn
        { s with mode := .quiescing, resume := now, quiesceTimer := some s.limits.quiesceLimit }))) ∧
    (f.payload = [3] → ∀ now, s.mode = .operating now → drained →
      exec (.quiesce f) s = .next (State.answered f .ok [] (bringOn
        { s with mode := .quiesced, resume := now, quiesceTimer := none,
                 events := s.events.raise .quiesceDone }))) ∧
    (f.payload = [4] → s.mode = .quiescing ∨ s.mode = .quiesced →
      exec (.resume f) s = .next (State.answered f .ok [] (bringOn
        { s with mode := .operating s.resume, quiesceTimer := none })))

/-- A RESTART in an operating mode or QUIESCED (R159, R160): RESTARTING, the resume mode kept, every held entry not
already refusal pending withdrawn; with nothing held it completes in its own event. -/
def Obligations.RestartAccepted : Prop :=
  ∀ (f : Frame) (s : State) (back : Mode), f.Received .write s → f.Verifies .write .mode → f.index = 0 →
    f.payload = [5] → s.mode = .operating back ∨ (s.mode = .quiesced ∧ s.resume = back) →
    (s.hold ≠ [] →
      exec (.restart f) s = .next (State.answered f .ok [] (bringOn
        { s with
          mode := .restarting
          resume := back
          hold := s.hold.map (fun e => if e.refusal = none then { e with refusal := some .withdrawn } else e) }))) ∧
    (s.hold = [] →
      exec (.restart f) s = .next (State.answered f .ok [] (judgeDrained (bringOn
        { s with mode := .restarting, resume := back }))))

/-- The mode requests that the state does not admit change nothing and are answered by the table of section 9.3:
WRONG_MODE, or BUSY in RESTARTING (R151, R161). A request code outside the six is answered BAD_VALUE in every state and
changes nothing (R151); that any of the six rows may carry it is the model's choice (log 11). -/
def Obligations.ModeRequestsRefused : Prop :=
  ∀ (f : Frame) (s : State), f.Received .write s → f.Verifies .write .mode → f.index = 0 →
    let row := fun (code : Byte) (c : Frame → Instr) (st : MgmtStatus) =>
      f.payload = [code] → exec (c f) s = .next (State.answered f st [] s)
    (s.mode = .quiescing ∨ s.mode = .quiesced →
      row 0 .modeBypass .wrongMode ∧ row 1 .modeMonitor .wrongMode ∧ row 2 .modeGovern .wrongMode ∧
        row 3 .quiesce .wrongMode) ∧
    (s.mode = .quiescing → row 5 .restart .wrongMode) ∧
    (∀ m, s.mode = .operating m → row 4 .resume .wrongMode) ∧
    (s.mode = .restarting →
      row 0 .modeBypass .busy ∧ row 1 .modeMonitor .busy ∧ row 2 .modeGovern .busy ∧ row 3 .quiesce .busy ∧
        row 4 .resume .busy ∧ row 5 .restart .busy) ∧
    ∀ b : Byte, 6 ≤ b.toNat →
      ∀ c ∈ [Instr.modeBypass, Instr.modeMonitor, Instr.modeGovern, Instr.quiesce, Instr.resume, Instr.restart],
        row b c .badValue

/-- The quiesce timer reaches 0 in QUIESCING (R93, R141, R156): every held entry not already refusal pending is withdrawn,
QUIESCE_FORCED is counted, the timer stops, and the state stays QUIESCING. -/
def Obligations.QuiesceForcedWithdraws : Prop :=
  ∀ s : State, s.phase = .running → s.mode = .quiescing → s.quiesceTimer = some 0 →
    exec .quiesceForced s = .next (bringOn
      { s with
        hold := s.hold.map (fun e => if e.refusal = none then { e with refusal := some .withdrawn } else e)
        quiesceTimer := none
        faults := s.faults.counted .quiesceForced
          { requester := none, tag := none, downTag := none, address := none, lane := none, codes := none } s.timebase
        events := s.events.raise .fault })

/-- The resets (R19, R142, R143, R148, R149, R150): a reset sets every item to its reset value, a power-on reset the Fault
Record and the counters too; RST_N low within a power-on reset changes nothing; at the end the straps are sampled, the
cause recorded and the start mode entered. While a reset lasts, every command but POWER_ON_RESET, PIN_RESET and RESET_END
leaves the state as it is (R19, R150, R165). That a request still offered outlasts the reset, and that the straps and the
cause stand until its end, are the model's reading (log 15, log 16). -/
def Obligations.ResetsAndTheirEnd : Prop :=
  ∀ s : State,
    let during := fun (c : ResetCause) (f : Faults) =>
      { State.reset with
        phase := .inReset c, offered := s.offered, faults := f, mode := .operating (startMode s.straps),
        resume := startMode s.straps, straps := s.straps, resetCause := s.resetCause, pending := s.pending }
    let started := fun p : Straps =>
      if p.start = 1 then Mode.monitor else if p.start = 2 then Mode.govern else Mode.bypass
    exec .powerOnReset s = .next (during .powerOn { record := none, counts := Vector.replicate 8 0 }) ∧
    (s.phase ≠ .inReset .powerOn → exec .pinReset s = .next (during .pin s.faults)) ∧
    (s.phase = .inReset .powerOn → exec .pinReset s = .next s) ∧
    (∀ (c : ResetCause) (p : Straps), s.phase = .inReset c →
      exec (.resetEnd p) s = .next { s with
        phase := .running, mode := .operating (started p), resume := started p, straps := p, resetCause := c,
        evalDue := (s.evalDue || s.offered.isSome) }) ∧
    (∀ p : Straps, s.phase = .running → exec (.resetEnd p) s = .next s) ∧
    ∀ (i : Instr) (c : ResetCause), s.phase = .inReset c → i ≠ .powerOnReset → i ≠ .pinReset →
      (∀ p, i ≠ .resetEnd p) → exec i s = .next s

/-! ## The Management Port -/

/-- The writes of LIMITS, RULE, LANE_STAGED, PERIOD and TRIGGER (R21, R66, R67, R117, R168, R174): a payload of the
class's length that decodes to legal values replaces the object in one piece and answers OK; one that does not is
answered BAD_VALUE and changes nothing. -/
def Obligations.TableWritesReplaceOrRefuse : Prop :=
  ∀ (f : Frame) (s : State), f.Received .write s →
    let ok := fun u : State => Host.Outcome.next (ρ := Refusal) (φ := Fault) (State.answered f .ok [] u)
    let bad : Host.Outcome State Fault Refusal := .next (State.answered f .badValue [] s)
    let eval := s.evalDue || s.offered.isSome
    (f.Verifies .write .limits → f.index = 0 → f.payload.length = 13 →
      (∀ x, decodeLimits f.payload = some x → exec (.limitsWrite f) s = ok { s with limits := x, evalDue := eval }) ∧
      (decodeLimits f.payload = none → exec (.limitsWrite f) s = bad)) ∧
    (∀ n : RuleId, f.Verifies .write .rule → f.index.toNat = n.val → f.payload.length = 14 →
      (∀ x, decodeRule f.payload = some x →
        exec (.ruleWrite f) s = ok { s with rules := s.rules.set n x, evalDue := eval }) ∧
      (decodeRule f.payload = none → exec (.ruleWrite f) s = bad)) ∧
    (∀ l : LaneId, f.Verifies .write .laneStaged → f.index.toNat = l.val → f.payload.length = 11 →
      (∀ x, decodeLane f.payload = some x →
        exec (.laneStagedWrite f) s = ok { s with lanes := s.lanes.set l { s.lanes[l] with staged := x } }) ∧
      (decodeLane f.payload = none → exec (.laneStagedWrite f) s = bad)) ∧
    (∀ g : Gen, f.Verifies .write .period → f.index.toNat = g.val → f.payload.length = 3 →
      (∀ x, decodePeriod f.payload = some x →
        exec (.periodWrite f) s = ok { s with gens := s.gens.set g { s.gens[g] with stagedPeriod := x } }) ∧
      (decodePeriod f.payload = none → exec (.periodWrite f) s = bad)) ∧
    (∀ t : TriggerId, f.Verifies .write .trigger → f.index.toNat = t.val → f.payload.length = 14 →
      (∀ x, decodeTrigger f.payload = some x →
        exec (.triggerWrite f) s = ok { s with triggers := s.triggers.set t x }) ∧
      (decodeTrigger f.payload = none → exec (.triggerWrite f) s = bad))

/-- The layouts and limits of the written payloads (R21, R66, R67, R117, R174, R179, R180, section 11.3): which bytes
decode, and to which fields. -/
def Obligations.WrittenPayloadsDecodeByLayout : Prop :=
  let num2 := fun a b : Byte => a.toNat * 256 + b.toNat
  let num3 := fun a b c : Byte => a.toNat * 65536 + b.toNat * 256 + c.toNat
  let num4 := fun a b c d : Byte => a.toNat * 16777216 + b.toNat * 65536 + c.toNat * 256 + d.toNat
  let window := fun (base limit : Nat) (k : Byte) =>
    base ≤ limit ∧ limit ≤ 268435455 ∧ (k.getLsbD 0 = true ∨ k.getLsbD 1 = true ∨ k.getLsbD 2 = true)
  (∀ f b0 b1 b2 b3 l0 l1 l2 l3 v m k a n : Byte,
    let good := window (num4 b0 b1 b2 b3) (num4 l0 l1 l2 l3) k ∧ a.toNat < 3 ∧ n.toNat < 16
    (¬ good → decodeRule [f, b0, b1, b2, b3, l0, l1, l2, l3, v, m, k, a, n] = none) ∧
    (good → ∃ e, decodeRule [f, b0, b1, b2, b3, l0, l1, l2, l3, v, m, k, a, n] = some e ∧
      e.enabled = f.getLsbD 0 ∧ e.logRefusals = f.getLsbD 1 ∧ e.pattern.base = num4 b0 b1 b2 b3 ∧
      e.pattern.limit = num4 l0 l1 l2 l3 ∧ e.pattern.value = v ∧ e.pattern.mask = m ∧
      (∀ i : Fin 3, e.pattern.kinds.getLsbD i = k.getLsbD i) ∧ e.action.code = a ∧ e.lane.val = n.toNat)) ∧
  (∀ f md g b0 b1 b2 b3 l0 l1 l2 l3 v m k : Byte,
    let good := window (num4 b0 b1 b2 b3) (num4 l0 l1 l2 l3) k ∧ md.toNat < 3 ∧ g.toNat < 4
    (¬ good → decodeTrigger [f, md, g, b0, b1, b2, b3, l0, l1, l2, l3, v, m, k] = none) ∧
    (good → ∃ t, decodeTrigger [f, md, g, b0, b1, b2, b3, l0, l1, l2, l3, v, m, k] = some t ∧
      t.enabled = f.getLsbD 0 ∧ t.armed = f.getLsbD 0 ∧ t.mode.code = md ∧ t.gen.val = g.toNat ∧
      t.pattern.base = num4 b0 b1 b2 b3 ∧ t.pattern.limit = num4 l0 l1 l2 l3 ∧ t.pattern.value = v ∧
      t.pattern.mask = m ∧ ∀ i : Fin 3, t.pattern.kinds.getLsbD i = k.getLsbD i)) ∧
  (∀ k b0 b1 b2 w0 w1 w2 q p g f : Byte,
    let good := k.toNat < 3 ∧ p.toNat < 3 ∧ g.toNat < 4 ∧ 16 ≤ num3 b0 b1 b2 ∧ num3 w0 w1 w2 ≤ num3 b0 b1 b2 ∧
      q.toNat ≤ 128
    (¬ good → decodeLane [k, b0, b1, b2, w0, w1, w2, q, p, g, f] = none) ∧
    (good → ∃ c, decodeLane [k, b0, b1, b2, w0, w1, w2, q, p, g, f] = some c ∧
      c.kind.code = k ∧ c.budget = num3 b0 b1 b2 ∧
      c.watermark = (if num3 w0 w1 w2 = 0 then none else some (num3 w0 w1 w2)) ∧
      c.concurrency = (if q.toNat = 0 then none else some q.toNat) ∧ c.policy.code = p ∧ c.gen.val = g.toNat ∧
      c.summary = f.getLsbD 0)) ∧
  (∀ h0 h1 ea rf r0 r1 q0 q1 fa lp lt lr oa : Byte,
    let good := 1 ≤ num2 h0 h1 ∧ ea.toNat < 2 ∧ (rf.toNat = 1 ∨ (rf.toNat = 0 ∧ 1 ≤ num2 r0 r1)) ∧
      1 ≤ num2 q0 q1 ∧ fa.toNat < 2 ∧ lp.toNat < 2 ∧ 1 ≤ lt.toNat ∧ lt.toNat ≤ 64 ∧ lr.toNat < 2 ∧ 1 ≤ oa.toNat ∧
      oa.toNat ≤ 127
    (¬ good → decodeLimits [h0, h1, ea, rf, r0, r1, q0, q1, fa, lp, lt, lr, oa] = none) ∧
    (good → ∃ x, decodeLimits [h0, h1, ea, rf, r0, r1, q0, q1, fa, lp, lt, lr, oa] = some x ∧
      x.holdLimit = num2 h0 h1 ∧ x.expiryAction.code = ea ∧
      x.responseLimit = (if rf.toNat = 1 then none else some (num2 r0 r1)) ∧ x.quiesceLimit = num2 q0 q1 ∧
      x.fullAction.code = fa ∧ x.logPolicy.code = lp ∧ x.logThreshold = lt.toNat ∧
      x.logRefusals = decide (lr.toNat = 1) ∧ x.orphanAlarm = oa.toNat)) ∧
  (∀ p0 p1 p2 : Byte, decodePeriod [p0, p1, p2] =
    if 1 ≤ num3 p0 p1 p2 ∧ num3 p0 p1 p2 ≤ 1000000 then some (num3 p0 p1 p2) else none)

/-- What the reads return (R168, section 11.3). A read whose class serves it, with an index in range, answers OK with the
object's contents and changes nothing else (LOG has its own statement). Each of the other fourteen classes that serve a read
returns its fields in its layout of section 11.3, with the codes of section 11.4 and the flag codes of section 11.3 (R23,
R57, R75, R96, R115, R117, R136, R138, R146, R173, R175, R179). What a read of RULE, LANE_STAGED, TRIGGER, LIMITS, MASKS or
of PERIOD's staged period returns, written back, decodes to the object, for every legal value (R23, R66, R117, R136, R175,
R180); a trigger's armed field reads in bit 7 of its first byte. No row of the table carries these reads, so `takeFrame` stands for them (the model's choice, log 13). -/
def Obligations.ReadsWriteBack : Prop :=
  let byte := fun n : Nat => BitVec.ofNat 8 n
  let laneOf := fun o : Option LaneId => match o with
    | none => (0 : Byte)
    | some l => byte l.val
  let ruleOf := fun o : Option RuleId => match o with
    | none => (0 : Byte)
    | some n => byte n.val
  let modeOf := fun m : Mode => match m with
    | .bypass => (0 : Byte)
    | .monitor => 1
    | .govern => 2
  let kindOf := fun k : Kind => match k with
    | .read => (0 : Byte)
    | .write => 1
    | .fetch => 2
  let record := fun c : LaneConfig =>
    [match c.kind with
      | .metered => (0 : Byte)
      | .openLane => 1
      | .closed => 2] ++ beBytes 3 c.budget ++ beBytes 3 (c.watermark.getD 0) ++
    [byte (c.concurrency.getD 0), match c.policy with
      | .hold => 0
      | .refuse => 1
      | .mark => 2, byte c.gen.val, byte c.summary.toNat]
  let window := fun x : Pattern =>
    beBytes 4 x.base ++ beBytes 4 x.limit ++ [x.value, x.mask, byte x.kinds.toNat]
  let faultKind := fun k : FaultKind => match k with
    | .malformed => (1 : Byte)
    | .tagClash => 2
    | .unknownResponse => 3
    | .responseTimeout => 4
    | .holdExpired => 5
    | .holdOverflow => 6
    | .quiesceForced => 7
    | .frameCheck => 8
  let last : ObjectClass → Nat := fun c => match c with
    | .rule => 31
    | .laneStaged => 15
    | .laneLive => 15
    | .period => 3
    | .trigger => 7
    | .hold => 47
    | .tags => 127
    | _ => 0
  (∀ f : Flag, f.code.val = match f with
    | .watermark => 0
    | .exhausted => 1
    | .holdAged => 2
    | .holdExpired => 3
    | .responseTimeout => 4
    | .orphanReturn => 5
    | .tagsLow => 6
    | .logLevel => 7
    | .logLost => 8
    | .commitDone => 9
    | .quiesceDone => 10
    | .restartDone => 11
    | .fault => 12) ∧
  (∀ k : FaultKind, k.code.val + 1 = (faultKind k).toNat) ∧
  (∀ k n i : Nat, (beBytes k n).length = k ∧
    (i < k → (beBytes k n)[i]? = some (byte (n / 256 ^ (k - 1 - i))))) ∧
  (∀ (c : ObjectClass) (f : Frame) (s : State), f.Received .read s → f.Verifies .read c → f.payload = [] →
    c ≠ .log → c ≠ .commit → f.index.toNat ≤ last c →
    takeFrame .read c f s = State.answered f .ok (readContents c f.index.toNat s) s) ∧
  (∀ s : State,
    readContents .identity 0 s = [0x0B, 0x57, 0x1C, 0x2A, 1, byte s.straps.channel.val,
      byte (s.straps.start.val + 4 * s.straps.unmatched.toNat), match s.resetCause with
        | .powerOn => 0
        | .pin => 1] ∧
    readContents .mode 0 s = [match s.mode with
        | .operating m => modeOf m
        | .quiescing => 3
        | .quiesced => 4
        | .restarting => 5, modeOf s.resume] ∧
    readContents .limits 0 s = encodeLimits s.limits ∧
    readContents .limits 0 s = beBytes 2 s.limits.holdLimit ++
      [match s.limits.expiryAction with
        | .force => 0
        | .refuse => 1, byte s.limits.responseLimit.isNone.toNat] ++
      beBytes 2 (s.limits.responseLimit.getD 0) ++ beBytes 2 s.limits.quiesceLimit ++
      [match s.limits.fullAction with
        | .stall => 0
        | .refuse => 1, match s.limits.logPolicy with
        | .stop => 0
        | .wrap => 1, byte s.limits.logThreshold, byte s.limits.logRefusals.toNat, byte s.limits.orphanAlarm] ∧
    (∀ n : RuleId, readContents .rule n.val s = encodeRule s.rules[n] ∧
      readContents .rule n.val s =
        [byte (s.rules[n].enabled.toNat + 2 * s.rules[n].logRefusals.toNat)] ++ window s.rules[n].pattern ++
        [match s.rules[n].action with
          | .forward => 0
          | .govern => 1
          | .refuse => 2, byte s.rules[n].lane.val]) ∧
    (∀ n : TriggerId, readContents .trigger n.val s = encodeTrigger s.triggers[n] ∧
      readContents .trigger n.val s =
        [byte (s.triggers[n].enabled.toNat + 128 * s.triggers[n].armed.toNat), match s.triggers[n].mode with
          | .once => 0
          | .every => 1
          | .firstInPeriod => 2, byte s.triggers[n].gen.val] ++ window s.triggers[n].pattern) ∧
    readContents .masks 0 s = encodeMasks s.events ∧
    (readContents .masks 0 s).length = 13 ∧
    (∀ i : Fin 13, (readContents .masks 0 s)[i.val]? = some (byte (s.events.flags[i]).enabled.toNat)) ∧
    readContents .timebase 0 s = beBytes 4 s.timebase.toNat ∧
    (∀ g : Gen, readContents .period g.val s = encodePeriod s.gens[g] ∧
      readContents .period g.val s = beBytes 3 s.gens[g].livePeriod ++ beBytes 3 s.gens[g].stagedPeriod ++
      beBytes 3 s.gens[g].remaining ++ beBytes 2 s.gens[g].expiries.toNat ++ [byte s.gens[g].commitPending.toNat]) ∧
    (∀ l : LaneId, readContents .laneStaged l.val s = encodeLane s.lanes[l].staged ∧
      readContents .laneStaged l.val s = record s.lanes[l].staged ∧
      readContents .laneLive l.val s = record s.lanes[l].live ++
        beBytes 4 (BitVec.ofInt 32 s.lanes[l].balance).toNat ++ beBytes 4 s.lanes[l].consumed ++
        beBytes 4 s.lanes[l].overrun ++
        [byte (s.lanes[l].watermarkReached.toNat + 2 * s.lanes[l].exhausted.toNat), byte s.lanes[l].liveCount] ++
        beBytes 4 s.lanes[l].lastConsumed ++ beBytes 6 s.lanes[l].totalForwarded.toNat ++
        beBytes 4 s.lanes[l].totalHolds ++ beBytes 4 s.lanes[l].totalRefusals ++ beBytes 4 s.lanes[l].totalOverrun) ∧
    (∃ set : BitVec 16, (∀ i : Fin 13, set.getLsbD i = (s.events.flags[i]).set) ∧
      (∀ i : Fin 16, 13 ≤ i.val → set.getLsbD i = false) ∧
      readContents .events 0 s = beBytes 2 set.toNat ++ s.events.flags.toList.map EventFlag.raises ++
        beBytes 2 s.events.watermarkLanes.toNat ++ beBytes 2 s.events.exhaustedLanes.toNat ++
        [byte s.events.commitGens.toNat]) ∧
    (s.faults.record = none →
      readContents .fault 0 s = List.replicate 17 0 ++ s.faults.counts.toList.flatMap (beBytes 2)) ∧
    (∀ x, s.faults.record = some x → readContents .fault 0 s =
      [faultKind x.kind,
        byte (x.details.requester.isSome.toNat + 2 * x.details.tag.isSome.toNat + 4 * x.details.downTag.isSome.toNat +
          8 * x.details.address.isSome.toNat + 16 * x.details.lane.isSome.toNat + 32 * x.details.codes.isSome.toNat)] ++
      beBytes 4 x.timestamp.toNat ++
      [x.details.requester.getD 0, x.details.tag.getD 0, byte ((x.details.downTag.map Fin.val).getD 0)] ++
      beBytes 5 (x.details.address.getD 0).toNat ++
      [laneOf x.details.lane, byte ((x.details.codes.map Prod.fst).getD 0).toNat,
        byte ((x.details.codes.map Prod.snd).getD 0).toNat] ++ s.faults.counts.toList.flatMap (beBytes 2)) ∧
    (∀ n : Nat, s.hold.length ≤ n → readContents .hold n s =
      [byte s.hold.length] ++ beBytes 2 (usedBeats s) ++ List.replicate 22 0) ∧
    (∀ (n : Nat) (e : HoldEntry), s.hold[n]? = some e → readContents .hold n s =
      [byte s.hold.length] ++ beBytes 2 (usedBeats s) ++
      [byte (1 + 2 * e.req.lane.isSome.toNat + 4 * e.req.rule.isSome.toNat + 8 * e.aged.toNat + 16 * e.forced.toNat),
        e.req.requester, e.req.tag, kindOf e.req.kind] ++ beBytes 5 e.req.address.toNat ++
      [byte e.req.length, laneOf e.req.lane, ruleOf e.req.rule, match e.cause with
        | .budget => (0 : Byte)
        | .concurrency => 1
        | .order => 2
        | .tags => 3] ++ beBytes 4 e.takenAt.toNat ++ beBytes 2 e.holdLimit ++ beBytes 2 e.remaining ++
      [match e.refusal with
        | none => (0 : Byte)
        | some .rate => 3
        | some .expired => 6
        | some .withdrawn => 8]) ∧
    freeCount s + liveTotal s + orphanCount s = 128 ∧
    ∀ t : DownTag, readContents .tags t.val s =
      [byte (freeCount s), byte (liveTotal s), byte (orphanCount s)] ++
      (let fields := fun (code : Byte) (f : Flight) =>
        [code, byte (f.lane.isSome.toNat + 2 * f.rule.isSome.toNat + 4 * f.remaining.isSome.toNat +
          8 * f.timeoutPending.toNat), f.tag, f.requester, kindOf f.kind] ++ beBytes 5 f.address.toNat ++
        [byte f.length, laneOf f.lane, ruleOf f.rule] ++ beBytes 4 f.forwardedAt.toNat ++
        beBytes 2 (f.remaining.getD 0)
      match s.tags[t] with
        | .free => List.replicate 19 0
        | .live f => fields 1 f
        | .orphaned f => fields 2 f)) ∧
  (∀ e : RuleEntry, e.pattern.legal = true → decodeRule (encodeRule e) = some e) ∧
  (∀ c : LaneConfig, c.legal = true → decodeLane (encodeLane c) = some c) ∧
  (∀ t : Trigger, t.pattern.legal = true → decodeTrigger (encodeTrigger t) = some { t with armed := t.enabled } ∧
    (encodeTrigger t).head? = some (byte (t.enabled.toNat + 128 * t.armed.toNat))) ∧
  (∀ x : Limits, x.legal = true → decodeLimits (encodeLimits x) = some x) ∧
  (∀ g : Generator, g.Sound → decodePeriod (((encodePeriod g).drop 3).take 3) = some g.stagedPeriod) ∧
  ∀ e : Events, decodeMasks (encodeMasks e) = some (e.flags.toList.map EventFlag.enabled)

/-- The writes that carry out an operation (R57, R68, R69, R142, R145, R176): LANE_LIVE clears a lane's five statistics;
COMMIT sets commit pending of the generators named, CANCEL clears it, or answers NOT_PENDING when none had it; naming
none is BAD_VALUE; CLEAR_FAULT empties the Fault Record; CLEAR_COUNTERS sets the eight counters to 0. An
operation code that the class does not list is BAD_VALUE and changes nothing (R142, R176, R180); that either of the two
rows may carry it is the model's choice (log 11). -/
def Obligations.OperationWritesAct : Prop :=
  ∀ (f : Frame) (s : State), f.Received .write s →
    let done := fun (st : MgmtStatus) (u : State) => Host.Outcome.next (ρ := Refusal) (φ := Fault)
      (State.answered f st [] u)
    (∀ l : LaneId, f.Verifies .write .laneLive → f.index.toNat = l.val → f.payload = [] →
      exec (.laneLiveWrite f) s = done .ok { s with lanes := s.lanes.set l { s.lanes[l] with
        lastConsumed := 0, totalForwarded := 0, totalHolds := 0, totalRefusals := 0, totalOverrun := 0 } }) ∧
    (∀ b : Byte, f.Verifies .write .commit → f.index = 0 → f.payload = [1, b] →
      (b.setWidth 4 = 0#4 → exec (.commit f) s = done .badValue s) ∧
      (b.setWidth 4 ≠ 0#4 → ∃ u, exec (.commit f) s = done .ok u ∧
        (∀ g : Gen, u.gens[g] = if b.getLsbD g = true then { s.gens[g] with commitPending := true } else s.gens[g]) ∧
        { u with gens := s.gens } = s)) ∧
    (∀ b : Byte, f.Verifies .write .commit → f.index = 0 → f.payload = [2, b] →
      (b.setWidth 4 = 0#4 → exec (.cancel f) s = done .badValue s) ∧
      (b.setWidth 4 ≠ 0#4 → (∀ g : Gen, b.getLsbD g = true → s.gens[g].commitPending = false) →
        exec (.cancel f) s = done .notPending s) ∧
      (∀ k : Gen, b.getLsbD k = true → s.gens[k].commitPending = true → ∃ u, exec (.cancel f) s = done .ok u ∧
        (∀ g : Gen, u.gens[g] = if b.getLsbD g = true then { s.gens[g] with commitPending := false }
          else s.gens[g]) ∧
        { u with gens := s.gens } = s)) ∧
    (f.Verifies .write .fault → f.index = 0 → f.payload = [1] →
      exec (.clearFault f) s = done .ok { s with faults := { record := none, counts := s.faults.counts } }) ∧
    (f.Verifies .write .fault → f.index = 0 → f.payload = [2] →
      exec (.clearCounters f) s = done .ok
        { s with faults := { record := s.faults.record, counts := Vector.replicate 8 0 } }) ∧
    (∀ op b : Byte, f.Verifies .write .commit → f.index = 0 → f.payload = [op, b] → op ≠ 1 → op ≠ 2 →
      exec (.commit f) s = done .badValue s ∧ exec (.cancel f) s = done .badValue s) ∧
    (∀ op : Byte, f.Verifies .write .fault → f.index = 0 → f.payload = [op] → op ≠ 1 → op ≠ 2 →
      exec (.clearFault f) s = done .badValue s ∧ exec (.clearCounters f) s = done .badValue s)

/-- A read of LOG[n], n 1 or 2 (R131, R181): it removes up to n of the oldest records in its own event and returns, in 56
bytes, how many it returned, how many are left, the lost count and the records, oldest first, an empty slot as 00h. Each
record is 26 bytes in the layout of its source, with the codes of section 11.4 (R123, R179, R182, section 11.5). -/
def Obligations.LogReadRemovesOldest : Prop :=
  (∀ (f : Frame) (s : State) (n : Nat), f.Received .read s → f.Verifies .read .log → n = 1 ∨ n = 2 →
    f.index.toNat = n → f.payload = [] →
    let out := s.log.records.take n
    let slot := fun o : Option CaptureRecord => match o with
      | none => List.replicate 26 (0 : Byte)
      | some r => encodeRecord r
    let reply := [BitVec.ofNat 8 out.length, BitVec.ofNat 8 (s.log.records.length - out.length)] ++
      beBytes 2 s.log.lost ++ slot out[0]? ++ slot out[1]?
    reply.length = 56 ∧
    exec (.logRead f) s = .next (State.answered f .ok reply
      { s with log := { s.log with records := s.log.records.drop n } })) ∧
  ∀ (seq : BitVec 16) (now : Time) (r : RecordRequest) (lane : Option LaneId) (rule : Option RuleId),
    let bytes := fun b : RecordBody => encodeRecord { seq := seq, timestamp := now, body := b }
    let laneOf := fun o : Option LaneId => match o with
      | none => (0 : Byte)
      | some l => BitVec.ofNat 8 l.val
    let causeOf := fun c : Cause => match c with
      | .budget => (0 : Byte)
      | .concurrency => 1
      | .order => 2
      | .tags => 3
    let statusOf := fun st : Status => match st with
      | .okay => (0 : Byte)
      | .memoryError => 1
      | .refusedScreen => 2
      | .refusedRate => 3
      | .refusedFull => 4
      | .refusedProtocol => 5
      | .expired => 6
      | .timedOut => 7
      | .withdrawn => 8
    let shownAs := fun x : Shown => match x with
      | .forwarded => [(0 : Byte), 0]
      | .forwardedMark => [1, 0]
      | .forwardedScreenMark => [2, 0]
      | .held c => [3, causeOf c]
      | .refused st => [4, statusOf st]
    let stamp := beBytes 2 seq.toNat ++ beBytes 4 now.toNat
    let head := fun (source : Byte) (lane : Option LaneId) =>
      stamp ++ [source, BitVec.ofNat 8 (1 + 2 * lane.isSome.toNat + 4 * rule.isSome.toNat), r.requester, r.tag,
        r.kind.setWidth 8] ++ beBytes 5 r.address.toNat ++
      [r.length.setWidth 8, laneOf lane, match rule with
        | none => 0
        | some n => BitVec.ofNat 8 n.val]
    let fill := fun n : Nat => List.replicate n (0 : Byte)
    (∀ (set : BitVec 8) (x : Shown), bytes (.trigger r lane rule set x) = head 1 lane ++ [set] ++ shownAs x ++ fill 4) ∧
    (∀ st : Status, bytes (.refusal r lane rule st .taking) = head 2 lane ++ [statusOf st, 0] ++ fill 5 ∧
      bytes (.refusal r lane rule st .release) = head 2 lane ++ [statusOf st, 1] ++ fill 5) ∧
    (∀ x : Shown, bytes (.screenMark r rule x) = head 3 none ++ shownAs x ++ fill 5) ∧
    (∀ (c : Cause) (wait : Nat),
      bytes (.holdExpiry r lane rule .forced c wait) = head 4 lane ++ [0x80, causeOf c] ++ beBytes 4 wait ++ fill 1 ∧
      bytes (.holdExpiry r lane rule .expired c wait) = head 4 lane ++ [6, causeOf c] ++ beBytes 4 wait ++ fill 1) ∧
    (∀ t : DownTag, bytes (.timeout r lane rule t) = head 5 lane ++ [BitVec.ofNat 8 t.val] ++ fill 6 ∧
      bytes (.orphan r lane rule t) = head 6 lane ++ [BitVec.ofNat 8 t.val] ++ fill 6) ∧
    (∀ (l : LaneId) (g : Gen) (consumed overrun : Nat) (balance : Int),
      bytes (.periodSummary l g consumed balance overrun) = stamp ++ [7, 2, BitVec.ofNat 8 g.val] ++
        beBytes 4 consumed ++ beBytes 4 (BitVec.ofInt 32 balance).toNat ++ [BitVec.ofNat 8 l.val, 0] ++
        beBytes 4 overrun ++ fill 3)

/-- A CLEAR (R135, R139, R172): a flag named, set, with its own raise count is cleared, its set emptied; one named, set,
with another count stays and is listed; the answer is NOT_CLEARED when one is listed, OK otherwise, with the thirteen
counts and the bitmap of the flags listed. A MASKS write replaces the thirteen masks (R136). A list
that names a flag code outside the thirteen, or one flag twice, and a mask code outside masked and enabled, are BAD_VALUE
and change nothing (R136, R139, R180). -/
def Obligations.ClearAndMasksWrites : Prop :=
  ∀ (f : Frame) (s : State), f.Received .write s → f.index = 0 →
    (∀ ps : List (Fin 13 × Byte), f.Verifies .write .events → ps ≠ [] → (ps.map Prod.fst).Nodup →
      f.payload = ps.flatMap (fun p => [BitVec.ofNat 8 p.1.val, p.2]) →
      let hit := fun i : Fin 13 => (s.events.flags[i]).set = true ∧ (i, (s.events.flags[i]).raises) ∈ ps
      let kept := fun i : Fin 13 => (s.events.flags[i]).set = true ∧ i ∈ ps.map Prod.fst ∧
        (i, (s.events.flags[i]).raises) ∉ ps
      ∃ (st : MgmtStatus) (bitmap : BitVec 16) (u : State),
        exec (.clear f) s = .next (State.answered f st
          (s.events.flags.toList.map EventFlag.raises ++
            [bitmap.extractLsb' 8 8, bitmap.extractLsb' 0 8]) u) ∧
        ((∃ i, kept i) → st = .notCleared) ∧ ((∀ i, ¬ kept i) → st = .ok) ∧
        (∀ i : Fin 13, bitmap.getLsbD i = true ↔ kept i) ∧ (∀ i : Fin 16, 13 ≤ i.val → bitmap.getLsbD i = false) ∧
        (∀ i : Fin 13, (hit i → u.events.flags[i] = { s.events.flags[i] with set := false }) ∧
          (¬ hit i → u.events.flags[i] = s.events.flags[i])) ∧
        (hit 0 → u.events.watermarkLanes = 0) ∧ (¬ hit 0 → u.events.watermarkLanes = s.events.watermarkLanes) ∧
        (hit 1 → u.events.exhaustedLanes = 0) ∧ (¬ hit 1 → u.events.exhaustedLanes = s.events.exhaustedLanes) ∧
        (hit 9 → u.events.commitGens = 0) ∧ (¬ hit 9 → u.events.commitGens = s.events.commitGens) ∧
        { u with events := s.events } = s) ∧
    (∀ ms : Vector Bool 13, f.Verifies .write .masks → f.payload = ms.toList.map (fun b => if b then 1 else 0) →
      ∃ u, exec (.masksWrite f) s = .next (State.answered f .ok [] u) ∧
        (∀ i : Fin 13, u.events.flags[i] = { s.events.flags[i] with enabled := ms[i] }) ∧
        u.events.watermarkLanes = s.events.watermarkLanes ∧ u.events.exhaustedLanes = s.events.exhaustedLanes ∧
        u.events.commitGens = s.events.commitGens ∧ { u with events := s.events } = s) ∧
    (∀ ps : List (Byte × Byte), f.Verifies .write .events → ps ≠ [] → ps.length ≤ 13 →
      f.payload = ps.flatMap (fun p => [p.1, p.2]) → (∃ p ∈ ps, 13 ≤ p.1.toNat) ∨ ¬ (ps.map Prod.fst).Nodup →
      exec (.clear f) s = .next (State.answered f .badValue [] s)) ∧
    (f.Verifies .write .masks → f.payload.length = 13 → (∃ b ∈ f.payload, 2 ≤ b.toNat) →
      exec (.masksWrite f) s = .next (State.answered f .badValue [] s))

/-- What the port refuses or ignores (R166, R167, R168, R170, R171, R177), for every row that writes, for the LOG read, and
for the other reads, which have no row (log 13): a check that fails executes nothing, counts FRAME_CHECK and is answered
BAD_CHECK; a write of a class that serves none, a read of COMMIT and an index out of its class's range are answered
BAD_CLASS, and a wrong payload length BAD_LENGTH; none of these three changes anything; a frame for another governor, and a
broadcast read, do nothing at all. That a frame which spells another row's operation is not this row's event, and changes
nothing, and that a BAD_CHECK whose check verifies does so too, are the model's choice (log 11, log 12). -/
def Obligations.FramesRefusedOrIgnored : Prop :=
  let writes : List (ObjectClass × Option Byte × (Frame → Instr)) :=
    [(.mode, some 0, .modeBypass), (.mode, some 1, .modeMonitor), (.mode, some 2, .modeGovern),
      (.mode, some 3, .quiesce), (.mode, some 4, .resume), (.mode, some 5, .restart), (.limits, none, .limitsWrite),
      (.rule, none, .ruleWrite), (.laneStaged, none, .laneStagedWrite), (.laneLive, none, .laneLiveWrite),
      (.period, none, .periodWrite), (.commit, some 1, .commit), (.commit, some 2, .cancel),
      (.trigger, none, .triggerWrite), (.events, none, .clear), (.masks, none, .masksWrite),
      (.fault, some 1, .clearFault), (.fault, some 2, .clearCounters)]
  let listed : ObjectClass → List Byte := fun c => if c = .mode then [0, 1, 2, 3, 4, 5] else [1, 2]
  let spells := fun (c : ObjectClass) (own : Option Byte) (f : Frame) =>
    ∃ a b, own = some a ∧ f.payload.head? = some b ∧ b ∈ listed c ∧ b ≠ a
  let last : ObjectClass → Nat := fun c => match c with
    | .rule => 31
    | .laneStaged => 15
    | .laneLive => 15
    | .period => 3
    | .trigger => 7
    | .hold => 47
    | .tags => 127
    | _ => 0
  let fits := fun (c : ObjectClass) (n : Nat) => match c with
    | .mode => n = 1
    | .limits => n = 13
    | .rule => n = 14
    | .laneStaged => n = 11
    | .laneLive => n = 0
    | .period => n = 3
    | .commit => n = 2
    | .trigger => n = 14
    | .events => 2 ≤ n ∧ n ≤ 26 ∧ n % 2 = 0
    | .masks => n = 13
    | .fault => n = 1
    | _ => False
  let failed := fun (f : Frame) (s : State) => State.answered f .badCheck []
    { s with
      faults := s.faults.counted .frameCheck
        { requester := none, tag := none, downTag := none, address := none, lane := none, codes := none } s.timebase
      events := s.events.raise .fault }
  (∀ (d : Direction) (c : ObjectClass) (f : Frame) (s : State), s.phase = .running →
    (f.Received d s → ¬ f.Verifies d c → exec (.badCheck d c f) s = .next (failed f s)) ∧
    (¬ f.Received d s → ¬ f.Verifies d c → exec (.badCheck d c f) s = .next { s with port := Port.idle }) ∧
    (f.Verifies d c → exec (.badCheck d c f) s = .next s)) ∧
  (∀ (c : UnservedClass) (f : Frame) (s : State), s.phase = .running →
    (f.Received .write s → f.Verifies .write c.toClass →
      exec (.unservedWrite c f) s = .next (State.answered f .badClass [] s)) ∧
    (f.Received .write s → ¬ f.Verifies .write c.toClass → exec (.unservedWrite c f) s = .next (failed f s)) ∧
    (¬ f.Received .write s → exec (.unservedWrite c f) s = .next { s with port := Port.idle })) ∧
  (∀ c own row, (c, own, row) ∈ writes → ∀ (f : Frame) (s : State), s.phase = .running →
    (spells c own f → exec (row f) s = .next s) ∧
    (¬ spells c own f →
      (¬ f.Received .write s → exec (row f) s = .next { s with port := Port.idle }) ∧
      (f.Received .write s → ¬ f.Verifies .write c → exec (row f) s = .next (failed f s)) ∧
      (f.Received .write s → f.Verifies .write c → last c < f.index.toNat →
        exec (row f) s = .next (State.answered f .badClass [] s)) ∧
      (f.Received .write s → f.Verifies .write c → f.index.toNat ≤ last c → ¬ fits c f.payload.length →
        exec (row f) s = .next (State.answered f .badLength [] s)))) ∧
  (∀ (f : Frame) (s : State), s.phase = .running →
    (¬ f.Received .read s → exec (.logRead f) s = .next { s with port := Port.idle }) ∧
    (f.Received .read s → ¬ f.Verifies .read .log → exec (.logRead f) s = .next (failed f s)) ∧
    (f.Received .read s → f.Verifies .read .log → f.index.toNat = 0 ∨ 2 < f.index.toNat →
      exec (.logRead f) s = .next (State.answered f .badClass [] s)) ∧
    (f.Received .read s → f.Verifies .read .log → f.index.toNat = 1 ∨ f.index.toNat = 2 → f.payload ≠ [] →
      exec (.logRead f) s = .next (State.answered f .badLength [] s))) ∧
  ∀ (c : ObjectClass) (f : Frame) (s : State), s.phase = .running →
    (¬ f.Received .read s → takeFrame .read c f s = { s with port := Port.idle }) ∧
    (f.Received .read s → ¬ f.Verifies .read c → takeFrame .read c f s = failed f s) ∧
    (f.Received .read s → f.Verifies .read c → c ≠ .log → c = .commit ∨ last c < f.index.toNat →
      takeFrame .read c f s = State.answered f .badClass [] s) ∧
    (f.Received .read s → f.Verifies .read c → c ≠ .log → c ≠ .commit → f.index.toNat ≤ last c → f.payload ≠ [] →
      takeFrame .read c f s = State.answered f .badLength [] s)

/-- A frame cut short (R169): before its check byte completes it is discarded, and in REPLY the rest of the reply is
abandoned; either way the port is IDLE, nothing else changes, and the effect of a frame already taken stands. -/
def Obligations.FrameCutShortIsDiscarded : Prop :=
  ∀ s : State, s.phase = .running →
    (∀ bits : List Bool, bits.length < 24 →
      exec (.frameCutShort (.inFrame bits)) s = .next { s with port := Port.idle }) ∧
    (∀ (bits : List Bool) (b0 b1 b2 : Byte) (rest : List Byte), bytesOfBits bits = b0 :: b1 :: b2 :: rest →
      rest.length ≤ b2.toNat → exec (.frameCutShort (.inFrame bits)) s = .next { s with port := Port.idle }) ∧
    ∀ clocks : Nat, s.port.state = .reply →
      exec (.frameCutShort (.inReply clocks)) s = .next { s with port := Port.idle }

/-- The port, byte by byte, does with a whole frame what the frame's command does, while no reset lasts: from the fall of
chip-select, the bytes of R163 one after another leave the state that taking the frame leaves (R163, R164, R165, R168); that
a command is a whole frame is the model's choice (log 10). A frame whose chip-select falls while a reset lasts is ignored to
its end, even when the reset ends within it (R165). In REPLY each further byte shifts out the next reply byte, FFh after the
last, its most significant bit first; in every other state the output is undriven (R162, R163); bits received in that order
spell the bytes they were sent from (R162). The bytes themselves are those of R163 and section 11.2: byte 0 carries channel,
direction and class in bits 7 to 5, 4 and 3 to 0; the statuses have the codes of the table; the check byte is the CRC-8 of
R164, the remainder that x^8 + x^2 + x + 1 leaves of the bits, in the order they are sent, with eight zeros behind them. -/
def Obligations.PortBytesRefineFrame : Prop :=
  let polynomial : List Bool → Polynomial (ZMod 2) := fun bits =>
    bits.foldl (fun q b => q * Polynomial.X + if b = true then 1 else 0) 0
  (∀ (d : Direction) (c : ObjectClass) (f : Frame),
    frameBytes d c f = [headerByte f.channel d c, f.index, BitVec.ofNat 8 f.payload.length] ++ f.payload ++ [f.check]) ∧
  (∀ (channel : Fin 8) (d : Direction) (c : ObjectClass), (headerByte channel d c).toNat =
    channel.val * 32 +
    (match d with
      | .read => 0
      | .write => 16) +
    match c with
    | .identity => 0
    | .mode => 1
    | .limits => 2
    | .rule => 3
    | .laneStaged => 4
    | .laneLive => 5
    | .period => 6
    | .commit => 7
    | .trigger => 8
    | .log => 9
    | .events => 10
    | .masks => 11
    | .fault => 12
    | .timebase => 13
    | .hold => 14
    | .tags => 15) ∧
  (∀ st : MgmtStatus, st.code = match st with
    | .ok => 0
    | .badCheck => 1
    | .badClass => 2
    | .badLength => 3
    | .badValue => 4
    | .wrongMode => 5
    | .busy => 6
    | .notCleared => 7
    | .notPending => 8) ∧
  (∀ bs : List Byte, Polynomial.X ^ 8 + Polynomial.X ^ 2 + Polynomial.X + 1 ∣
    polynomial (bs.flatMap bitsOfByte) * Polynomial.X ^ 8 + polynomial (bitsOfByte (crc8 bs))) ∧
  (∀ (d : Direction) (c : ObjectClass) (f : Frame), f.Verifies d c ↔ f.check =
    crc8 ([headerByte f.channel d c, f.index, BitVec.ofNat 8 f.payload.length] ++ f.payload)) ∧
  (∀ (f : Frame) (st : MgmtStatus) (payload : List Byte), f.channel ≠ 7 →
    (replyPort f st payload).reply = [st.code] ++ payload ++ [crc8 ([st.code] ++ payload)]) ∧
  (∀ (d : Direction) (c : ObjectClass) (f : Frame) (s : State), s.phase = .running → f.payload.length ≤ 255 →
    portBytes (frameBytes d c f) (portFall s) = takeFrame d c f s) ∧
  (∀ (sent : List Byte) (c : ResetCause) (s : State), s.phase = .inReset c →
    portBytes sent (portFall s) = { s with port := Port.idle } ∧
    ∀ (p : Straps) (t : State), exec (.resetEnd p) (portBytes sent (portFall s)) = .next t →
      t.phase = .running ∧ ∀ more : List Byte, portBytes more t = t) ∧
  (∀ (sent : List Byte) (s : State), s.port.state = .reply →
    portDrives (portBytes sent s) = some (s.port.reply.getD sent.length 0xFF) ∧
      portShifts (portBytes sent s) = some (bitsOfByte (s.port.reply.getD sent.length 0xFF)) ∧
      { portBytes sent s with port := s.port } = s) ∧
  (∀ s : State, s.port.state ≠ .reply → portDrives s = none ∧ portShifts s = none) ∧
  (∀ (b : Byte) (i : Fin 8), (bitsOfByte b)[i.val]? = some (b.getLsbD (7 - i.val))) ∧
  ∀ bs : List Byte, bytesOfBits (bs.flatMap bitsOfByte) = bs
end

