-- ==== Sys2Proof/Laws/Crc.lean ====
section
/-! SUPPORT. What one byte does to the CRC register, said of polynomials over the field of two elements (R164). -/

namespace Sys2Proof.Machine

open Polynomial

/-- The polynomial whose coefficients are the bits, the first bit the highest. -/
noncomputable def bitPolynomial (bits : List Bool) : Polynomial (ZMod 2) :=
  bits.foldl (fun q b => q * X + if b = true then 1 else 0) 0

/-- The polynomial of R164. -/
noncomputable abbrev crcPolynomial : Polynomial (ZMod 2) := X ^ 8 + X ^ 2 + X + 1

/-- Bits sent later stand lower. -/
theorem bitPolynomial_append (a b : List Bool) :
    bitPolynomial (a ++ b) = bitPolynomial a * X ^ b.length + bitPolynomial b := by
  induction b using List.reverseRecOn with
  | nil => simp [bitPolynomial]
  | append_singleton b x ih =>
    have h : ∀ l : List Bool, bitPolynomial (l ++ [x]) = bitPolynomial l * X + if x = true then 1 else 0 := by
      intro l; simp [bitPolynomial]
    rw [← List.append_assoc, h, ih, h, List.length_append, List.length_singleton]
    ring

/-- A byte's polynomial, bit by bit: bit `i` is the coefficient of `X ^ i`. -/
theorem bitPolynomial_bitsOfByte (b : Byte) :
    bitPolynomial (bitsOfByte b) = ∑ i : Fin 8, (if b.getLsbD i = true then 1 else 0) * X ^ i.val := by
  rw [Fin.sum_univ_eight]
  simp only [bitPolynomial, bitsOfByte, List.foldl_cons, List.foldl_nil, Fin.isValue, Fin.coe_ofNat_eq_mod,
    Nat.reduceMod]
  ring

/-- Exclusive or adds the polynomials. -/
theorem bitPolynomial_xor (a b : Byte) :
    bitPolynomial (bitsOfByte (a ^^^ b)) = bitPolynomial (bitsOfByte a) + bitPolynomial (bitsOfByte b) := by
  simp only [bitPolynomial_bitsOfByte, ← Finset.sum_add_distrib]
  refine Finset.sum_congr rfl fun i _ => ?_
  rw [BitVec.getLsbD_xor]
  cases a.getLsbD i <;> cases b.getLsbD i <;> simp [CharTwo.add_self_eq_zero]

/-- One shift of the register is a multiplication by X, up to multiples of the polynomial. -/
theorem crcShift_remainder (c : Byte) :
    crcPolynomial ∣ bitPolynomial (bitsOfByte c) * X + bitPolynomial (bitsOfByte (crcShift c)) := by
  have hs : bitPolynomial (bitsOfByte c) * X =
      bitPolynomial (bitsOfByte (c <<< 1)) + (if c.getLsbD 7 = true then 1 else 0) * X ^ 8 := by
    simp only [bitPolynomial_bitsOfByte, Fin.sum_univ_eight, BitVec.getLsbD_shiftLeft, Fin.isValue,
      Fin.coe_ofNat_eq_mod, Nat.reduceMod, Nat.reduceLT, Nat.reduceSub, decide_true, decide_false, Bool.not_true,
      Bool.not_false, Bool.true_and, Bool.false_and, Bool.false_eq_true, if_false]
    ring
  have h7 : bitPolynomial (bitsOfByte (0x07 : Byte)) = X ^ 2 + X + 1 := by
    simp [bitPolynomial_bitsOfByte, Fin.sum_univ_eight]; ring
  have h2 := CharTwo.add_self_eq_zero (bitPolynomial (bitsOfByte (c <<< 1)))
  rw [hs, crcShift, show c.msb = c.getLsbD 7 by simp [BitVec.msb_eq_getLsbD_last]]
  cases c.getLsbD 7
  · simp [h2]
  · simp only [if_true, bitPolynomial_xor, h7]
    exact ⟨1, by linear_combination h2⟩

/-- One byte takes the register to the remainder of register plus byte, with eight zeros behind it (R164). -/
theorem crcByte_remainder (c b : Byte) :
    crcPolynomial ∣ (bitPolynomial (bitsOfByte c) + bitPolynomial (bitsOfByte b)) * X ^ 8 +
      bitPolynomial (bitsOfByte (crcByte c b)) := by
  have more : ∀ (k : Nat) (x y : Byte),
      crcPolynomial ∣ bitPolynomial (bitsOfByte x) * X ^ k + bitPolynomial (bitsOfByte y) →
      crcPolynomial ∣ bitPolynomial (bitsOfByte x) * X ^ (k + 1) + bitPolynomial (bitsOfByte (crcShift y)) := by
    rintro k x y ⟨q, hq⟩
    obtain ⟨r, hr⟩ := crcShift_remainder y
    refine ⟨q * X - r, ?_⟩
    have h2 := CharTwo.add_self_eq_zero (bitPolynomial (bitsOfByte (crcShift y)))
    linear_combination X * hq - hr + h2
  rw [← bitPolynomial_xor]
  refine more 7 _ _ (more 6 _ _ (more 5 _ _ (more 4 _ _ (more 3 _ _ (more 2 _ _ (more 1 _ _ ?_))))))
  simpa using crcShift_remainder (c ^^^ b)

end Sys2Proof.Machine
end

