-- ==== Sys2Proof/Laws/State.lean ====
section
/-! SUPPORT. What each plain update of the state changes and what it leaves, field by field, true by `rfl`. Each
law is one conjunction: `simp` uses its parts as rules of their own, so that no proof unfolds a record update. -/

namespace Sys2Proof.Machine

/-- A raise changes the Event Unit alone. -/
@[simp] theorem raise_fields (f : Flag) (s : State) :
    (raise f s).phase = s.phase ∧ (raise f s).timebase = s.timebase ∧ (raise f s).offered = s.offered ∧
      (raise f s).downRequest = s.downRequest ∧ (raise f s).downResponse = s.downResponse ∧ (raise f s).upResponse = s.upResponse ∧
      (raise f s).localQueue = s.localQueue ∧ (raise f s).turn = s.turn ∧ (raise f s).rules = s.rules ∧
      (raise f s).lanes = s.lanes ∧ (raise f s).gens = s.gens ∧ (raise f s).hold = s.hold ∧
      (raise f s).tags = s.tags ∧ (raise f s).triggers = s.triggers ∧ (raise f s).log = s.log ∧
      (raise f s).events = s.events.raise f ∧ (raise f s).faults = s.faults ∧ (raise f s).mode = s.mode ∧
      (raise f s).resume = s.resume ∧ (raise f s).quiesceTimer = s.quiesceTimer ∧ (raise f s).limits = s.limits ∧
      (raise f s).straps = s.straps ∧ (raise f s).resetCause = s.resetCause ∧ (raise f s).port = s.port ∧
      (raise f s).scanDue = s.scanDue ∧ (raise f s).evalDue = s.evalDue ∧ (raise f s).pending = s.pending := by
  and_intros <;> rfl

/-- A raise of WATERMARK changes the Event Unit alone. -/
@[simp] theorem raiseWatermark_fields (l : LaneId) (s : State) :
    (raiseWatermark l s).phase = s.phase ∧ (raiseWatermark l s).timebase = s.timebase ∧ (raiseWatermark l s).offered = s.offered ∧
      (raiseWatermark l s).downRequest = s.downRequest ∧ (raiseWatermark l s).downResponse = s.downResponse ∧ (raiseWatermark l s).upResponse = s.upResponse ∧
      (raiseWatermark l s).localQueue = s.localQueue ∧ (raiseWatermark l s).turn = s.turn ∧ (raiseWatermark l s).rules = s.rules ∧
      (raiseWatermark l s).lanes = s.lanes ∧ (raiseWatermark l s).gens = s.gens ∧ (raiseWatermark l s).hold = s.hold ∧
      (raiseWatermark l s).tags = s.tags ∧ (raiseWatermark l s).triggers = s.triggers ∧ (raiseWatermark l s).log = s.log ∧
      (raiseWatermark l s).faults = s.faults ∧ (raiseWatermark l s).mode = s.mode ∧ (raiseWatermark l s).resume = s.resume ∧
      (raiseWatermark l s).quiesceTimer = s.quiesceTimer ∧ (raiseWatermark l s).limits = s.limits ∧ (raiseWatermark l s).straps = s.straps ∧
      (raiseWatermark l s).resetCause = s.resetCause ∧ (raiseWatermark l s).port = s.port ∧ (raiseWatermark l s).scanDue = s.scanDue ∧
      (raiseWatermark l s).evalDue = s.evalDue ∧ (raiseWatermark l s).pending = s.pending := by
  and_intros <;> rfl

/-- A raise of EXHAUSTED changes the Event Unit alone. -/
@[simp] theorem raiseExhausted_fields (l : LaneId) (s : State) :
    (raiseExhausted l s).phase = s.phase ∧ (raiseExhausted l s).timebase = s.timebase ∧ (raiseExhausted l s).offered = s.offered ∧
      (raiseExhausted l s).downRequest = s.downRequest ∧ (raiseExhausted l s).downResponse = s.downResponse ∧ (raiseExhausted l s).upResponse = s.upResponse ∧
      (raiseExhausted l s).localQueue = s.localQueue ∧ (raiseExhausted l s).turn = s.turn ∧ (raiseExhausted l s).rules = s.rules ∧
      (raiseExhausted l s).lanes = s.lanes ∧ (raiseExhausted l s).gens = s.gens ∧ (raiseExhausted l s).hold = s.hold ∧
      (raiseExhausted l s).tags = s.tags ∧ (raiseExhausted l s).triggers = s.triggers ∧ (raiseExhausted l s).log = s.log ∧
      (raiseExhausted l s).faults = s.faults ∧ (raiseExhausted l s).mode = s.mode ∧ (raiseExhausted l s).resume = s.resume ∧
      (raiseExhausted l s).quiesceTimer = s.quiesceTimer ∧ (raiseExhausted l s).limits = s.limits ∧ (raiseExhausted l s).straps = s.straps ∧
      (raiseExhausted l s).resetCause = s.resetCause ∧ (raiseExhausted l s).port = s.port ∧ (raiseExhausted l s).scanDue = s.scanDue ∧
      (raiseExhausted l s).evalDue = s.evalDue ∧ (raiseExhausted l s).pending = s.pending := by
  and_intros <;> rfl

/-- A raise of COMMIT_DONE changes the Event Unit alone. -/
@[simp] theorem raiseCommitDone_fields (g : Gen) (s : State) :
    (raiseCommitDone g s).phase = s.phase ∧ (raiseCommitDone g s).timebase = s.timebase ∧ (raiseCommitDone g s).offered = s.offered ∧
      (raiseCommitDone g s).downRequest = s.downRequest ∧ (raiseCommitDone g s).downResponse = s.downResponse ∧ (raiseCommitDone g s).upResponse = s.upResponse ∧
      (raiseCommitDone g s).localQueue = s.localQueue ∧ (raiseCommitDone g s).turn = s.turn ∧ (raiseCommitDone g s).rules = s.rules ∧
      (raiseCommitDone g s).lanes = s.lanes ∧ (raiseCommitDone g s).gens = s.gens ∧ (raiseCommitDone g s).hold = s.hold ∧
      (raiseCommitDone g s).tags = s.tags ∧ (raiseCommitDone g s).triggers = s.triggers ∧ (raiseCommitDone g s).log = s.log ∧
      (raiseCommitDone g s).faults = s.faults ∧ (raiseCommitDone g s).mode = s.mode ∧ (raiseCommitDone g s).resume = s.resume ∧
      (raiseCommitDone g s).quiesceTimer = s.quiesceTimer ∧ (raiseCommitDone g s).limits = s.limits ∧ (raiseCommitDone g s).straps = s.straps ∧
      (raiseCommitDone g s).resetCause = s.resetCause ∧ (raiseCommitDone g s).port = s.port ∧ (raiseCommitDone g s).scanDue = s.scanDue ∧
      (raiseCommitDone g s).evalDue = s.evalDue ∧ (raiseCommitDone g s).pending = s.pending := by
  and_intros <;> rfl

/-- A fault changes the Event Unit alone. -/
@[simp] theorem countFault_fields (k : FaultKind) (d : FaultDetails) (s : State) :
    (countFault k d s).phase = s.phase ∧ (countFault k d s).timebase = s.timebase ∧ (countFault k d s).offered = s.offered ∧
      (countFault k d s).downRequest = s.downRequest ∧ (countFault k d s).downResponse = s.downResponse ∧ (countFault k d s).upResponse = s.upResponse ∧
      (countFault k d s).localQueue = s.localQueue ∧ (countFault k d s).turn = s.turn ∧ (countFault k d s).rules = s.rules ∧
      (countFault k d s).lanes = s.lanes ∧ (countFault k d s).gens = s.gens ∧ (countFault k d s).hold = s.hold ∧
      (countFault k d s).tags = s.tags ∧ (countFault k d s).triggers = s.triggers ∧ (countFault k d s).log = s.log ∧
      (countFault k d s).events = s.events.raise .fault ∧ (countFault k d s).faults = s.faults.counted k d s.timebase ∧ (countFault k d s).mode = s.mode ∧
      (countFault k d s).resume = s.resume ∧ (countFault k d s).quiesceTimer = s.quiesceTimer ∧ (countFault k d s).limits = s.limits ∧
      (countFault k d s).straps = s.straps ∧ (countFault k d s).resetCause = s.resetCause ∧ (countFault k d s).port = s.port ∧
      (countFault k d s).scanDue = s.scanDue ∧ (countFault k d s).evalDue = s.evalDue ∧ (countFault k d s).pending = s.pending := by
  and_intros <;> rfl

/-- An update of one lane. -/
@[simp] theorem updateLane_fields (l : LaneId) (f : Lane → Lane) (s : State) :
    (updateLane l f s).phase = s.phase ∧ (updateLane l f s).timebase = s.timebase ∧ (updateLane l f s).offered = s.offered ∧
      (updateLane l f s).downRequest = s.downRequest ∧ (updateLane l f s).downResponse = s.downResponse ∧ (updateLane l f s).upResponse = s.upResponse ∧
      (updateLane l f s).localQueue = s.localQueue ∧ (updateLane l f s).turn = s.turn ∧ (updateLane l f s).rules = s.rules ∧
      (updateLane l f s).lanes = s.lanes.set l (f s.lanes[l]) ∧ (updateLane l f s).gens = s.gens ∧ (updateLane l f s).hold = s.hold ∧
      (updateLane l f s).tags = s.tags ∧ (updateLane l f s).triggers = s.triggers ∧ (updateLane l f s).log = s.log ∧
      (updateLane l f s).events = s.events ∧ (updateLane l f s).faults = s.faults ∧ (updateLane l f s).mode = s.mode ∧
      (updateLane l f s).resume = s.resume ∧ (updateLane l f s).quiesceTimer = s.quiesceTimer ∧ (updateLane l f s).limits = s.limits ∧
      (updateLane l f s).straps = s.straps ∧ (updateLane l f s).resetCause = s.resetCause ∧ (updateLane l f s).port = s.port ∧
      (updateLane l f s).scanDue = s.scanDue ∧ (updateLane l f s).evalDue = s.evalDue ∧ (updateLane l f s).pending = s.pending := by
  and_intros <;> rfl

/-- An update of one generator. -/
@[simp] theorem updateGen_fields (g : Gen) (f : Generator → Generator) (s : State) :
    (updateGen g f s).phase = s.phase ∧ (updateGen g f s).timebase = s.timebase ∧ (updateGen g f s).offered = s.offered ∧
      (updateGen g f s).downRequest = s.downRequest ∧ (updateGen g f s).downResponse = s.downResponse ∧ (updateGen g f s).upResponse = s.upResponse ∧
      (updateGen g f s).localQueue = s.localQueue ∧ (updateGen g f s).turn = s.turn ∧ (updateGen g f s).rules = s.rules ∧
      (updateGen g f s).lanes = s.lanes ∧ (updateGen g f s).gens = s.gens.set g (f s.gens[g]) ∧ (updateGen g f s).hold = s.hold ∧
      (updateGen g f s).tags = s.tags ∧ (updateGen g f s).triggers = s.triggers ∧ (updateGen g f s).log = s.log ∧
      (updateGen g f s).events = s.events ∧ (updateGen g f s).faults = s.faults ∧ (updateGen g f s).mode = s.mode ∧
      (updateGen g f s).resume = s.resume ∧ (updateGen g f s).quiesceTimer = s.quiesceTimer ∧ (updateGen g f s).limits = s.limits ∧
      (updateGen g f s).straps = s.straps ∧ (updateGen g f s).resetCause = s.resetCause ∧ (updateGen g f s).port = s.port ∧
      (updateGen g f s).scanDue = s.scanDue ∧ (updateGen g f s).evalDue = s.evalDue ∧ (updateGen g f s).pending = s.pending := by
  and_intros <;> rfl

/-- An update of one In-Flight Table entry. -/
@[simp] theorem setTag_fields (t : DownTag) (e : TagEntry) (s : State) :
    (setTag t e s).phase = s.phase ∧ (setTag t e s).timebase = s.timebase ∧ (setTag t e s).offered = s.offered ∧
      (setTag t e s).downRequest = s.downRequest ∧ (setTag t e s).downResponse = s.downResponse ∧ (setTag t e s).upResponse = s.upResponse ∧
      (setTag t e s).localQueue = s.localQueue ∧ (setTag t e s).turn = s.turn ∧ (setTag t e s).rules = s.rules ∧
      (setTag t e s).lanes = s.lanes ∧ (setTag t e s).gens = s.gens ∧ (setTag t e s).hold = s.hold ∧
      (setTag t e s).tags = s.tags.set t e ∧ (setTag t e s).triggers = s.triggers ∧ (setTag t e s).log = s.log ∧
      (setTag t e s).events = s.events ∧ (setTag t e s).faults = s.faults ∧ (setTag t e s).mode = s.mode ∧
      (setTag t e s).resume = s.resume ∧ (setTag t e s).quiesceTimer = s.quiesceTimer ∧ (setTag t e s).limits = s.limits ∧
      (setTag t e s).straps = s.straps ∧ (setTag t e s).resetCause = s.resetCause ∧ (setTag t e s).port = s.port ∧
      (setTag t e s).scanDue = s.scanDue ∧ (setTag t e s).evalDue = s.evalDue ∧ (setTag t e s).pending = s.pending := by
  and_intros <;> rfl

/-- An update of one held entry. -/
@[simp] theorem updateHeld_fields (n : Nat) (f : HoldEntry → HoldEntry) (s : State) :
    (updateHeld n f s).phase = s.phase ∧ (updateHeld n f s).timebase = s.timebase ∧ (updateHeld n f s).offered = s.offered ∧
      (updateHeld n f s).downRequest = s.downRequest ∧ (updateHeld n f s).downResponse = s.downResponse ∧ (updateHeld n f s).upResponse = s.upResponse ∧
      (updateHeld n f s).localQueue = s.localQueue ∧ (updateHeld n f s).turn = s.turn ∧ (updateHeld n f s).rules = s.rules ∧
      (updateHeld n f s).lanes = s.lanes ∧ (updateHeld n f s).gens = s.gens ∧ (updateHeld n f s).hold = s.hold.modify n f ∧
      (updateHeld n f s).tags = s.tags ∧ (updateHeld n f s).triggers = s.triggers ∧ (updateHeld n f s).log = s.log ∧
      (updateHeld n f s).events = s.events ∧ (updateHeld n f s).faults = s.faults ∧ (updateHeld n f s).mode = s.mode ∧
      (updateHeld n f s).resume = s.resume ∧ (updateHeld n f s).quiesceTimer = s.quiesceTimer ∧ (updateHeld n f s).limits = s.limits ∧
      (updateHeld n f s).straps = s.straps ∧ (updateHeld n f s).resetCause = s.resetCause ∧ (updateHeld n f s).port = s.port ∧
      (updateHeld n f s).scanDue = s.scanDue ∧ (updateHeld n f s).evalDue = s.evalDue ∧ (updateHeld n f s).pending = s.pending := by
  and_intros <;> rfl

/-- What brings on a scan. -/
@[simp] theorem bringScan_fields (s : State) :
    (bringScan s).phase = s.phase ∧ (bringScan s).timebase = s.timebase ∧ (bringScan s).offered = s.offered ∧
      (bringScan s).downRequest = s.downRequest ∧ (bringScan s).downResponse = s.downResponse ∧ (bringScan s).upResponse = s.upResponse ∧
      (bringScan s).localQueue = s.localQueue ∧ (bringScan s).turn = s.turn ∧ (bringScan s).rules = s.rules ∧
      (bringScan s).lanes = s.lanes ∧ (bringScan s).gens = s.gens ∧ (bringScan s).hold = s.hold ∧
      (bringScan s).tags = s.tags ∧ (bringScan s).triggers = s.triggers ∧ (bringScan s).log = s.log ∧
      (bringScan s).events = s.events ∧ (bringScan s).faults = s.faults ∧ (bringScan s).mode = s.mode ∧
      (bringScan s).resume = s.resume ∧ (bringScan s).quiesceTimer = s.quiesceTimer ∧ (bringScan s).limits = s.limits ∧
      (bringScan s).straps = s.straps ∧ (bringScan s).resetCause = s.resetCause ∧ (bringScan s).port = s.port ∧
      (bringScan s).scanDue = (s.scanDue || !s.hold.isEmpty) ∧ (bringScan s).evalDue = s.evalDue ∧ (bringScan s).pending = s.pending := by
  and_intros <;> rfl

/-- What brings on an evaluation. -/
@[simp] theorem bringEval_fields (s : State) :
    (bringEval s).phase = s.phase ∧ (bringEval s).timebase = s.timebase ∧ (bringEval s).offered = s.offered ∧
      (bringEval s).downRequest = s.downRequest ∧ (bringEval s).downResponse = s.downResponse ∧ (bringEval s).upResponse = s.upResponse ∧
      (bringEval s).localQueue = s.localQueue ∧ (bringEval s).turn = s.turn ∧ (bringEval s).rules = s.rules ∧
      (bringEval s).lanes = s.lanes ∧ (bringEval s).gens = s.gens ∧ (bringEval s).hold = s.hold ∧
      (bringEval s).tags = s.tags ∧ (bringEval s).triggers = s.triggers ∧ (bringEval s).log = s.log ∧
      (bringEval s).events = s.events ∧ (bringEval s).faults = s.faults ∧ (bringEval s).mode = s.mode ∧
      (bringEval s).resume = s.resume ∧ (bringEval s).quiesceTimer = s.quiesceTimer ∧ (bringEval s).limits = s.limits ∧
      (bringEval s).straps = s.straps ∧ (bringEval s).resetCause = s.resetCause ∧ (bringEval s).port = s.port ∧
      (bringEval s).scanDue = s.scanDue ∧ (bringEval s).evalDue = (s.evalDue || s.offered.isSome) ∧ (bringEval s).pending = s.pending := by
  and_intros <;> rfl

/-- What brings on both. -/
@[simp] theorem bringOn_fields (s : State) :
    (bringOn s).phase = s.phase ∧ (bringOn s).timebase = s.timebase ∧ (bringOn s).offered = s.offered ∧
      (bringOn s).downRequest = s.downRequest ∧ (bringOn s).downResponse = s.downResponse ∧ (bringOn s).upResponse = s.upResponse ∧
      (bringOn s).localQueue = s.localQueue ∧ (bringOn s).turn = s.turn ∧ (bringOn s).rules = s.rules ∧
      (bringOn s).lanes = s.lanes ∧ (bringOn s).gens = s.gens ∧ (bringOn s).hold = s.hold ∧
      (bringOn s).tags = s.tags ∧ (bringOn s).triggers = s.triggers ∧ (bringOn s).log = s.log ∧
      (bringOn s).events = s.events ∧ (bringOn s).faults = s.faults ∧ (bringOn s).mode = s.mode ∧
      (bringOn s).resume = s.resume ∧ (bringOn s).quiesceTimer = s.quiesceTimer ∧ (bringOn s).limits = s.limits ∧
      (bringOn s).straps = s.straps ∧ (bringOn s).resetCause = s.resetCause ∧ (bringOn s).port = s.port ∧
      (bringOn s).scanDue = (s.scanDue || !s.hold.isEmpty) ∧ (bringOn s).evalDue = (s.evalDue || s.offered.isSome) ∧ (bringOn s).pending = s.pending := by
  and_intros <;> rfl

/-- A local response queued. -/
@[simp] theorem queueLocal_fields (u : UpTag) (st : Status) (s : State) :
    (queueLocal u st s).phase = s.phase ∧ (queueLocal u st s).timebase = s.timebase ∧ (queueLocal u st s).offered = s.offered ∧
      (queueLocal u st s).downRequest = s.downRequest ∧ (queueLocal u st s).downResponse = s.downResponse ∧ (queueLocal u st s).upResponse = s.upResponse ∧
      (queueLocal u st s).localQueue = s.localQueue ++ [{ tag := u, status := st }] ∧ (queueLocal u st s).turn = s.turn ∧ (queueLocal u st s).rules = s.rules ∧
      (queueLocal u st s).lanes = s.lanes ∧ (queueLocal u st s).gens = s.gens ∧ (queueLocal u st s).hold = s.hold ∧
      (queueLocal u st s).tags = s.tags ∧ (queueLocal u st s).triggers = s.triggers ∧ (queueLocal u st s).log = s.log ∧
      (queueLocal u st s).events = s.events ∧ (queueLocal u st s).faults = s.faults ∧ (queueLocal u st s).mode = s.mode ∧
      (queueLocal u st s).resume = s.resume ∧ (queueLocal u st s).quiesceTimer = s.quiesceTimer ∧ (queueLocal u st s).limits = s.limits ∧
      (queueLocal u st s).straps = s.straps ∧ (queueLocal u st s).resetCause = s.resetCause ∧ (queueLocal u st s).port = s.port ∧
      (queueLocal u st s).scanDue = s.scanDue ∧ (queueLocal u st s).evalDue = s.evalDue ∧ (queueLocal u st s).pending = s.pending := by
  and_intros <;> rfl

/-- A sequence number spent. -/
@[simp] theorem spendSeq_fields (s : State) :
    (spendSeq s).phase = s.phase ∧ (spendSeq s).timebase = s.timebase ∧ (spendSeq s).offered = s.offered ∧
      (spendSeq s).downRequest = s.downRequest ∧ (spendSeq s).downResponse = s.downResponse ∧ (spendSeq s).upResponse = s.upResponse ∧
      (spendSeq s).localQueue = s.localQueue ∧ (spendSeq s).turn = s.turn ∧ (spendSeq s).rules = s.rules ∧
      (spendSeq s).lanes = s.lanes ∧ (spendSeq s).gens = s.gens ∧ (spendSeq s).hold = s.hold ∧
      (spendSeq s).tags = s.tags ∧ (spendSeq s).triggers = s.triggers ∧ (spendSeq s).log = { s.log with next := s.log.next + 1 } ∧
      (spendSeq s).events = s.events ∧ (spendSeq s).faults = s.faults ∧ (spendSeq s).mode = s.mode ∧
      (spendSeq s).resume = s.resume ∧ (spendSeq s).quiesceTimer = s.quiesceTimer ∧ (spendSeq s).limits = s.limits ∧
      (spendSeq s).straps = s.straps ∧ (spendSeq s).resetCause = s.resetCause ∧ (spendSeq s).port = s.port ∧
      (spendSeq s).scanDue = s.scanDue ∧ (spendSeq s).evalDue = s.evalDue ∧ (spendSeq s).pending = s.pending := by
  and_intros <;> rfl

/-- A change of the Mode Controller's state. -/
@[simp] theorem enter_fields (m : ModeState) (s : State) :
    (enter m s).phase = s.phase ∧ (enter m s).timebase = s.timebase ∧ (enter m s).offered = s.offered ∧
      (enter m s).downRequest = s.downRequest ∧ (enter m s).downResponse = s.downResponse ∧ (enter m s).upResponse = s.upResponse ∧
      (enter m s).localQueue = s.localQueue ∧ (enter m s).turn = s.turn ∧ (enter m s).rules = s.rules ∧
      (enter m s).lanes = s.lanes ∧ (enter m s).gens = s.gens ∧ (enter m s).hold = s.hold ∧
      (enter m s).tags = s.tags ∧ (enter m s).triggers = s.triggers ∧ (enter m s).log = s.log ∧
      (enter m s).events = s.events ∧ (enter m s).faults = s.faults ∧ (enter m s).mode = m ∧
      (enter m s).resume = s.resume ∧ (enter m s).quiesceTimer = s.quiesceTimer ∧ (enter m s).limits = s.limits ∧
      (enter m s).straps = s.straps ∧ (enter m s).resetCause = s.resetCause ∧ (enter m s).port = s.port ∧
      (enter m s).scanDue = (s.scanDue || !s.hold.isEmpty) ∧ (enter m s).evalDue = (s.evalDue || s.offered.isSome) ∧ (enter m s).pending = s.pending := by
  and_intros <;> rfl

/-- A withdrawal of every held entry. -/
@[simp] theorem withdrawAll_fields (s : State) :
    (withdrawAll s).phase = s.phase ∧ (withdrawAll s).timebase = s.timebase ∧ (withdrawAll s).offered = s.offered ∧
      (withdrawAll s).downRequest = s.downRequest ∧ (withdrawAll s).downResponse = s.downResponse ∧ (withdrawAll s).upResponse = s.upResponse ∧
      (withdrawAll s).localQueue = s.localQueue ∧ (withdrawAll s).turn = s.turn ∧ (withdrawAll s).rules = s.rules ∧
      (withdrawAll s).lanes = s.lanes ∧ (withdrawAll s).gens = s.gens ∧ (withdrawAll s).hold = s.hold.map (HoldEntry.refuse .withdrawn) ∧
      (withdrawAll s).tags = s.tags ∧ (withdrawAll s).triggers = s.triggers ∧ (withdrawAll s).log = s.log ∧
      (withdrawAll s).events = s.events ∧ (withdrawAll s).faults = s.faults ∧ (withdrawAll s).mode = s.mode ∧
      (withdrawAll s).resume = s.resume ∧ (withdrawAll s).quiesceTimer = s.quiesceTimer ∧ (withdrawAll s).limits = s.limits ∧
      (withdrawAll s).straps = s.straps ∧ (withdrawAll s).resetCause = s.resetCause ∧ (withdrawAll s).port = s.port ∧
      (withdrawAll s).evalDue = (s.evalDue || s.offered.isSome) ∧ (withdrawAll s).pending = s.pending := by
  and_intros <;> rfl

/-- Stages 1 to 3 of a RESTART's completion. -/
@[simp] theorem restartPeriods_fields (s : State) :
    (restartPeriods s).phase = s.phase ∧ (restartPeriods s).timebase = s.timebase ∧ (restartPeriods s).offered = s.offered ∧
      (restartPeriods s).downRequest = s.downRequest ∧ (restartPeriods s).downResponse = s.downResponse ∧ (restartPeriods s).upResponse = s.upResponse ∧
      (restartPeriods s).localQueue = s.localQueue ∧ (restartPeriods s).turn = s.turn ∧ (restartPeriods s).rules = s.rules ∧
      (restartPeriods s).lanes = mapVec (fun _ l => l.restarted) s.lanes ∧ (restartPeriods s).gens = mapVec (fun _ g => g.restarted) s.gens ∧ (restartPeriods s).hold = s.hold ∧
      (restartPeriods s).tags = s.tags ∧ (restartPeriods s).triggers = mapVec (fun _ t => t.restarted) s.triggers ∧ (restartPeriods s).log = s.log ∧
      (restartPeriods s).events = s.events ∧ (restartPeriods s).faults = s.faults ∧ (restartPeriods s).mode = s.mode ∧
      (restartPeriods s).resume = s.resume ∧ (restartPeriods s).quiesceTimer = s.quiesceTimer ∧ (restartPeriods s).limits = s.limits ∧
      (restartPeriods s).straps = s.straps ∧ (restartPeriods s).resetCause = s.resetCause ∧ (restartPeriods s).port = s.port ∧
      (restartPeriods s).scanDue = s.scanDue ∧ (restartPeriods s).evalDue = s.evalDue ∧ (restartPeriods s).pending = s.pending := by
  and_intros <;> rfl

/-- A tick. -/
@[simp] theorem tick_fields (s : State) :
    (tick s).phase = s.phase ∧ (tick s).timebase = s.timebase + 1 ∧ (tick s).offered = s.offered ∧
      (tick s).downRequest = s.downRequest ∧ (tick s).downResponse = s.downResponse ∧ (tick s).upResponse = s.upResponse ∧
      (tick s).localQueue = s.localQueue ∧ (tick s).turn = s.turn ∧ (tick s).rules = s.rules ∧
      (tick s).lanes = s.lanes ∧ (tick s).gens = mapVec (fun _ g => g.ticked) s.gens ∧ (tick s).hold = s.hold.map HoldEntry.ticked ∧
      (tick s).tags = mapVec (fun _ e => e.ticked) s.tags ∧ (tick s).triggers = s.triggers ∧ (tick s).log = s.log ∧
      (tick s).events = s.events ∧ (tick s).faults = s.faults ∧ (tick s).mode = s.mode ∧
      (tick s).resume = s.resume ∧ (tick s).quiesceTimer = s.quiesceTimer.map (· - 1) ∧ (tick s).limits = s.limits ∧
      (tick s).straps = s.straps ∧ (tick s).resetCause = s.resetCause ∧ (tick s).port = s.port ∧
      (tick s).scanDue = s.scanDue ∧ (tick s).evalDue = s.evalDue ∧ (tick s).pending = s.pending := by
  and_intros <;> rfl

/-- The arming of FIRST_IN_PERIOD triggers. -/
@[simp] theorem armTriggers_fields (g : Gen) (s : State) :
    (armTriggers g s).phase = s.phase ∧ (armTriggers g s).timebase = s.timebase ∧ (armTriggers g s).offered = s.offered ∧
      (armTriggers g s).downRequest = s.downRequest ∧ (armTriggers g s).downResponse = s.downResponse ∧ (armTriggers g s).upResponse = s.upResponse ∧
      (armTriggers g s).localQueue = s.localQueue ∧ (armTriggers g s).turn = s.turn ∧ (armTriggers g s).rules = s.rules ∧
      (armTriggers g s).lanes = s.lanes ∧ (armTriggers g s).gens = s.gens ∧ (armTriggers g s).hold = s.hold ∧
      (armTriggers g s).tags = s.tags ∧ (armTriggers g s).triggers = mapVec (fun _ t => t.armedBy g) s.triggers ∧ (armTriggers g s).log = s.log ∧
      (armTriggers g s).events = s.events ∧ (armTriggers g s).faults = s.faults ∧ (armTriggers g s).mode = s.mode ∧
      (armTriggers g s).resume = s.resume ∧ (armTriggers g s).quiesceTimer = s.quiesceTimer ∧ (armTriggers g s).limits = s.limits ∧
      (armTriggers g s).straps = s.straps ∧ (armTriggers g s).resetCause = s.resetCause ∧ (armTriggers g s).port = s.port ∧
      (armTriggers g s).scanDue = s.scanDue ∧ (armTriggers g s).evalDue = s.evalDue ∧ (armTriggers g s).pending = s.pending := by
  and_intros <;> rfl

/-- A COMMIT. -/
@[simp] theorem commitGens_fields (set : BitVec 4) (s : State) :
    (commitGens set s).phase = s.phase ∧ (commitGens set s).timebase = s.timebase ∧ (commitGens set s).offered = s.offered ∧
      (commitGens set s).downRequest = s.downRequest ∧ (commitGens set s).downResponse = s.downResponse ∧ (commitGens set s).upResponse = s.upResponse ∧
      (commitGens set s).localQueue = s.localQueue ∧ (commitGens set s).turn = s.turn ∧ (commitGens set s).rules = s.rules ∧
      (commitGens set s).lanes = s.lanes ∧ (commitGens set s).hold = s.hold ∧ (commitGens set s).tags = s.tags ∧
      (commitGens set s).triggers = s.triggers ∧ (commitGens set s).log = s.log ∧ (commitGens set s).events = s.events ∧
      (commitGens set s).faults = s.faults ∧ (commitGens set s).mode = s.mode ∧ (commitGens set s).resume = s.resume ∧
      (commitGens set s).quiesceTimer = s.quiesceTimer ∧ (commitGens set s).limits = s.limits ∧ (commitGens set s).straps = s.straps ∧
      (commitGens set s).resetCause = s.resetCause ∧ (commitGens set s).port = s.port ∧ (commitGens set s).scanDue = s.scanDue ∧
      (commitGens set s).evalDue = s.evalDue ∧ (commitGens set s).pending = s.pending := by
  and_intros <;> rfl

/-- A CANCEL. -/
@[simp] theorem cancelGens_fields (set : BitVec 4) (s : State) :
    (cancelGens set s).phase = s.phase ∧ (cancelGens set s).timebase = s.timebase ∧ (cancelGens set s).offered = s.offered ∧
      (cancelGens set s).downRequest = s.downRequest ∧ (cancelGens set s).downResponse = s.downResponse ∧ (cancelGens set s).upResponse = s.upResponse ∧
      (cancelGens set s).localQueue = s.localQueue ∧ (cancelGens set s).turn = s.turn ∧ (cancelGens set s).rules = s.rules ∧
      (cancelGens set s).lanes = s.lanes ∧ (cancelGens set s).hold = s.hold ∧ (cancelGens set s).tags = s.tags ∧
      (cancelGens set s).triggers = s.triggers ∧ (cancelGens set s).log = s.log ∧ (cancelGens set s).events = s.events ∧
      (cancelGens set s).faults = s.faults ∧ (cancelGens set s).mode = s.mode ∧ (cancelGens set s).resume = s.resume ∧
      (cancelGens set s).quiesceTimer = s.quiesceTimer ∧ (cancelGens set s).limits = s.limits ∧ (cancelGens set s).straps = s.straps ∧
      (cancelGens set s).resetCause = s.resetCause ∧ (cancelGens set s).port = s.port ∧ (cancelGens set s).scanDue = s.scanDue ∧
      (cancelGens set s).evalDue = s.evalDue ∧ (cancelGens set s).pending = s.pending := by
  and_intros <;> rfl

/-- CLEAR_FAULT. -/
@[simp] theorem clearRecord_fields (s : State) :
    (clearRecord s).phase = s.phase ∧ (clearRecord s).timebase = s.timebase ∧ (clearRecord s).offered = s.offered ∧
      (clearRecord s).downRequest = s.downRequest ∧ (clearRecord s).downResponse = s.downResponse ∧ (clearRecord s).upResponse = s.upResponse ∧
      (clearRecord s).localQueue = s.localQueue ∧ (clearRecord s).turn = s.turn ∧ (clearRecord s).rules = s.rules ∧
      (clearRecord s).lanes = s.lanes ∧ (clearRecord s).gens = s.gens ∧ (clearRecord s).hold = s.hold ∧
      (clearRecord s).tags = s.tags ∧ (clearRecord s).triggers = s.triggers ∧ (clearRecord s).log = s.log ∧
      (clearRecord s).events = s.events ∧ (clearRecord s).faults = { s.faults with record := none } ∧ (clearRecord s).mode = s.mode ∧
      (clearRecord s).resume = s.resume ∧ (clearRecord s).quiesceTimer = s.quiesceTimer ∧ (clearRecord s).limits = s.limits ∧
      (clearRecord s).straps = s.straps ∧ (clearRecord s).resetCause = s.resetCause ∧ (clearRecord s).port = s.port ∧
      (clearRecord s).scanDue = s.scanDue ∧ (clearRecord s).evalDue = s.evalDue ∧ (clearRecord s).pending = s.pending := by
  and_intros <;> rfl

/-- CLEAR_COUNTERS. -/
@[simp] theorem clearCounts_fields (s : State) :
    (clearCounts s).phase = s.phase ∧ (clearCounts s).timebase = s.timebase ∧ (clearCounts s).offered = s.offered ∧
      (clearCounts s).downRequest = s.downRequest ∧ (clearCounts s).downResponse = s.downResponse ∧ (clearCounts s).upResponse = s.upResponse ∧
      (clearCounts s).localQueue = s.localQueue ∧ (clearCounts s).turn = s.turn ∧ (clearCounts s).rules = s.rules ∧
      (clearCounts s).lanes = s.lanes ∧ (clearCounts s).gens = s.gens ∧ (clearCounts s).hold = s.hold ∧
      (clearCounts s).tags = s.tags ∧ (clearCounts s).triggers = s.triggers ∧ (clearCounts s).log = s.log ∧
      (clearCounts s).events = s.events ∧ (clearCounts s).faults = { s.faults with counts := Vector.replicate 8 0 } ∧ (clearCounts s).mode = s.mode ∧
      (clearCounts s).resume = s.resume ∧ (clearCounts s).quiesceTimer = s.quiesceTimer ∧ (clearCounts s).limits = s.limits ∧
      (clearCounts s).straps = s.straps ∧ (clearCounts s).resetCause = s.resetCause ∧ (clearCounts s).port = s.port ∧
      (clearCounts s).scanDue = s.scanDue ∧ (clearCounts s).evalDue = s.evalDue ∧ (clearCounts s).pending = s.pending := by
  and_intros <;> rfl

/-- The taking of the response on offer upstream. -/
@[simp] theorem upstreamTaken_fields (s : State) :
    (upstreamTaken s).phase = s.phase ∧ (upstreamTaken s).timebase = s.timebase ∧ (upstreamTaken s).offered = s.offered ∧
      (upstreamTaken s).downRequest = s.downRequest ∧ (upstreamTaken s).upResponse = none ∧ (upstreamTaken s).localQueue = s.localQueue ∧
      (upstreamTaken s).turn = s.turn ∧ (upstreamTaken s).rules = s.rules ∧ (upstreamTaken s).lanes = s.lanes ∧
      (upstreamTaken s).gens = s.gens ∧ (upstreamTaken s).hold = s.hold ∧ (upstreamTaken s).tags = s.tags ∧
      (upstreamTaken s).triggers = s.triggers ∧ (upstreamTaken s).log = s.log ∧ (upstreamTaken s).events = s.events ∧
      (upstreamTaken s).faults = s.faults ∧ (upstreamTaken s).mode = s.mode ∧ (upstreamTaken s).resume = s.resume ∧
      (upstreamTaken s).quiesceTimer = s.quiesceTimer ∧ (upstreamTaken s).limits = s.limits ∧ (upstreamTaken s).straps = s.straps ∧
      (upstreamTaken s).resetCause = s.resetCause ∧ (upstreamTaken s).port = s.port ∧ (upstreamTaken s).scanDue = s.scanDue ∧
      (upstreamTaken s).evalDue = s.evalDue ∧ (upstreamTaken s).pending = s.pending := by
  and_intros <;> rfl

end Sys2Proof.Machine
end

