-- ==== Sys2Proof/Laws/Frames.lean ====
section
/-! SUPPORT. What each composed operation of the machine leaves unchanged, field by field: one conjunction for each
operation, whose parts `simp` uses as rules of their own. What the named operations do to the fields they change
stands in Laws/Ops.lean. -/

namespace Sys2Proof.Machine

/-- EXHAUSTED noted: lanes and events alone. -/
@[simp] theorem noteExhausted_fields (l : LaneId) (s : State) :
    (noteExhausted l s).phase = s.phase ∧ (noteExhausted l s).timebase = s.timebase ∧ (noteExhausted l s).offered = s.offered ∧
      (noteExhausted l s).downRequest = s.downRequest ∧ (noteExhausted l s).downResponse = s.downResponse ∧ (noteExhausted l s).upResponse = s.upResponse ∧
      (noteExhausted l s).localQueue = s.localQueue ∧ (noteExhausted l s).turn = s.turn ∧ (noteExhausted l s).rules = s.rules ∧
      (noteExhausted l s).gens = s.gens ∧ (noteExhausted l s).hold = s.hold ∧ (noteExhausted l s).tags = s.tags ∧
      (noteExhausted l s).triggers = s.triggers ∧ (noteExhausted l s).log = s.log ∧ (noteExhausted l s).faults = s.faults ∧
      (noteExhausted l s).mode = s.mode ∧ (noteExhausted l s).resume = s.resume ∧ (noteExhausted l s).quiesceTimer = s.quiesceTimer ∧
      (noteExhausted l s).limits = s.limits ∧ (noteExhausted l s).straps = s.straps ∧ (noteExhausted l s).resetCause = s.resetCause ∧
      (noteExhausted l s).port = s.port ∧ (noteExhausted l s).scanDue = s.scanDue ∧ (noteExhausted l s).evalDue = s.evalDue ∧
      (noteExhausted l s).pending = s.pending := by
  unfold noteExhausted
  split <;> simp

/-- WATERMARK noted: lanes and events alone. -/
@[simp] theorem noteWatermark_fields (l : LaneId) (s : State) :
    (noteWatermark l s).phase = s.phase ∧ (noteWatermark l s).timebase = s.timebase ∧ (noteWatermark l s).offered = s.offered ∧
      (noteWatermark l s).downRequest = s.downRequest ∧ (noteWatermark l s).downResponse = s.downResponse ∧ (noteWatermark l s).upResponse = s.upResponse ∧
      (noteWatermark l s).localQueue = s.localQueue ∧ (noteWatermark l s).turn = s.turn ∧ (noteWatermark l s).rules = s.rules ∧
      (noteWatermark l s).gens = s.gens ∧ (noteWatermark l s).hold = s.hold ∧ (noteWatermark l s).tags = s.tags ∧
      (noteWatermark l s).triggers = s.triggers ∧ (noteWatermark l s).log = s.log ∧ (noteWatermark l s).faults = s.faults ∧
      (noteWatermark l s).mode = s.mode ∧ (noteWatermark l s).resume = s.resume ∧ (noteWatermark l s).quiesceTimer = s.quiesceTimer ∧
      (noteWatermark l s).limits = s.limits ∧ (noteWatermark l s).straps = s.straps ∧ (noteWatermark l s).resetCause = s.resetCause ∧
      (noteWatermark l s).port = s.port ∧ (noteWatermark l s).scanDue = s.scanDue ∧ (noteWatermark l s).evalDue = s.evalDue ∧
      (noteWatermark l s).pending = s.pending := by
  unfold noteWatermark
  split <;> simp

/-- A charge: lanes and events alone. -/
@[simp] theorem charge_fields (l : LaneId) (cost : Nat) (s : State) :
    (charge l cost s).phase = s.phase ∧ (charge l cost s).timebase = s.timebase ∧ (charge l cost s).offered = s.offered ∧
      (charge l cost s).downRequest = s.downRequest ∧ (charge l cost s).downResponse = s.downResponse ∧ (charge l cost s).upResponse = s.upResponse ∧
      (charge l cost s).localQueue = s.localQueue ∧ (charge l cost s).turn = s.turn ∧ (charge l cost s).rules = s.rules ∧
      (charge l cost s).gens = s.gens ∧ (charge l cost s).hold = s.hold ∧ (charge l cost s).tags = s.tags ∧
      (charge l cost s).triggers = s.triggers ∧ (charge l cost s).log = s.log ∧ (charge l cost s).faults = s.faults ∧
      (charge l cost s).mode = s.mode ∧ (charge l cost s).resume = s.resume ∧ (charge l cost s).quiesceTimer = s.quiesceTimer ∧
      (charge l cost s).limits = s.limits ∧ (charge l cost s).straps = s.straps ∧ (charge l cost s).resetCause = s.resetCause ∧
      (charge l cost s).port = s.port ∧ (charge l cost s).scanDue = s.scanDue ∧ (charge l cost s).evalDue = s.evalDue ∧
      (charge l cost s).pending = s.pending := by
  simp only [charge]
  split <;> simp

/-- A forward's charge: lanes and events alone. -/
@[simp] theorem chargeFor_fields (p : Passage) (s : State) :
    (chargeFor p s).phase = s.phase ∧ (chargeFor p s).timebase = s.timebase ∧ (chargeFor p s).offered = s.offered ∧
      (chargeFor p s).downRequest = s.downRequest ∧ (chargeFor p s).downResponse = s.downResponse ∧ (chargeFor p s).upResponse = s.upResponse ∧
      (chargeFor p s).localQueue = s.localQueue ∧ (chargeFor p s).turn = s.turn ∧ (chargeFor p s).rules = s.rules ∧
      (chargeFor p s).gens = s.gens ∧ (chargeFor p s).hold = s.hold ∧ (chargeFor p s).tags = s.tags ∧
      (chargeFor p s).triggers = s.triggers ∧ (chargeFor p s).log = s.log ∧ (chargeFor p s).faults = s.faults ∧
      (chargeFor p s).mode = s.mode ∧ (chargeFor p s).resume = s.resume ∧ (chargeFor p s).quiesceTimer = s.quiesceTimer ∧
      (chargeFor p s).limits = s.limits ∧ (chargeFor p s).straps = s.straps ∧ (chargeFor p s).resetCause = s.resetCause ∧
      (chargeFor p s).port = s.port ∧ (chargeFor p s).scanDue = s.scanDue ∧ (chargeFor p s).evalDue = s.evalDue ∧
      (chargeFor p s).pending = s.pending := by
  unfold chargeFor
  split
  · simp
  · split <;> simp

/-- A rise of a live count: lanes alone. -/
@[simp] theorem liveRises_fields (lane : Option LaneId) (s : State) :
    (liveRises lane s).phase = s.phase ∧ (liveRises lane s).timebase = s.timebase ∧ (liveRises lane s).offered = s.offered ∧
      (liveRises lane s).downRequest = s.downRequest ∧ (liveRises lane s).downResponse = s.downResponse ∧ (liveRises lane s).upResponse = s.upResponse ∧
      (liveRises lane s).localQueue = s.localQueue ∧ (liveRises lane s).turn = s.turn ∧ (liveRises lane s).rules = s.rules ∧
      (liveRises lane s).gens = s.gens ∧ (liveRises lane s).hold = s.hold ∧ (liveRises lane s).tags = s.tags ∧
      (liveRises lane s).triggers = s.triggers ∧ (liveRises lane s).log = s.log ∧ (liveRises lane s).events = s.events ∧
      (liveRises lane s).faults = s.faults ∧ (liveRises lane s).mode = s.mode ∧ (liveRises lane s).resume = s.resume ∧
      (liveRises lane s).quiesceTimer = s.quiesceTimer ∧ (liveRises lane s).limits = s.limits ∧ (liveRises lane s).straps = s.straps ∧
      (liveRises lane s).resetCause = s.resetCause ∧ (liveRises lane s).port = s.port ∧ (liveRises lane s).scanDue = s.scanDue ∧
      (liveRises lane s).evalDue = s.evalDue ∧ (liveRises lane s).pending = s.pending := by
  unfold liveRises
  split <;> simp

/-- A fall of a live count: lanes alone. -/
@[simp] theorem liveFalls_fields (lane : Option LaneId) (s : State) :
    (liveFalls lane s).phase = s.phase ∧ (liveFalls lane s).timebase = s.timebase ∧ (liveFalls lane s).offered = s.offered ∧
      (liveFalls lane s).downRequest = s.downRequest ∧ (liveFalls lane s).downResponse = s.downResponse ∧ (liveFalls lane s).upResponse = s.upResponse ∧
      (liveFalls lane s).localQueue = s.localQueue ∧ (liveFalls lane s).turn = s.turn ∧ (liveFalls lane s).rules = s.rules ∧
      (liveFalls lane s).gens = s.gens ∧ (liveFalls lane s).hold = s.hold ∧ (liveFalls lane s).tags = s.tags ∧
      (liveFalls lane s).triggers = s.triggers ∧ (liveFalls lane s).log = s.log ∧ (liveFalls lane s).events = s.events ∧
      (liveFalls lane s).faults = s.faults ∧ (liveFalls lane s).mode = s.mode ∧ (liveFalls lane s).resume = s.resume ∧
      (liveFalls lane s).quiesceTimer = s.quiesceTimer ∧ (liveFalls lane s).limits = s.limits ∧ (liveFalls lane s).straps = s.straps ∧
      (liveFalls lane s).resetCause = s.resetCause ∧ (liveFalls lane s).port = s.port ∧ (liveFalls lane s).scanDue = s.scanDue ∧
      (liveFalls lane s).evalDue = s.evalDue ∧ (liveFalls lane s).pending = s.pending := by
  unfold liveFalls
  split <;> simp

/-- A conformance test's EXHAUSTED: lanes and events alone. -/
@[simp] theorem noteShort_fields (lane : Option LaneId) (short : Bool) (s : State) :
    (noteShort lane short s).phase = s.phase ∧ (noteShort lane short s).timebase = s.timebase ∧ (noteShort lane short s).offered = s.offered ∧
      (noteShort lane short s).downRequest = s.downRequest ∧ (noteShort lane short s).downResponse = s.downResponse ∧ (noteShort lane short s).upResponse = s.upResponse ∧
      (noteShort lane short s).localQueue = s.localQueue ∧ (noteShort lane short s).turn = s.turn ∧ (noteShort lane short s).rules = s.rules ∧
      (noteShort lane short s).gens = s.gens ∧ (noteShort lane short s).hold = s.hold ∧ (noteShort lane short s).tags = s.tags ∧
      (noteShort lane short s).triggers = s.triggers ∧ (noteShort lane short s).log = s.log ∧ (noteShort lane short s).faults = s.faults ∧
      (noteShort lane short s).mode = s.mode ∧ (noteShort lane short s).resume = s.resume ∧ (noteShort lane short s).quiesceTimer = s.quiesceTimer ∧
      (noteShort lane short s).limits = s.limits ∧ (noteShort lane short s).straps = s.straps ∧ (noteShort lane short s).resetCause = s.resetCause ∧
      (noteShort lane short s).port = s.port ∧ (noteShort lane short s).scanDue = s.scanDue ∧ (noteShort lane short s).evalDue = s.evalDue ∧
      (noteShort lane short s).pending = s.pending := by
  unfold noteShort
  split
  · simp
  · split <;> simp

/-- A hold counted: lanes alone. -/
@[simp] theorem countHold_fields (lane : Option LaneId) (s : State) :
    (countHold lane s).phase = s.phase ∧ (countHold lane s).timebase = s.timebase ∧ (countHold lane s).offered = s.offered ∧
      (countHold lane s).downRequest = s.downRequest ∧ (countHold lane s).downResponse = s.downResponse ∧ (countHold lane s).upResponse = s.upResponse ∧
      (countHold lane s).localQueue = s.localQueue ∧ (countHold lane s).turn = s.turn ∧ (countHold lane s).rules = s.rules ∧
      (countHold lane s).gens = s.gens ∧ (countHold lane s).hold = s.hold ∧ (countHold lane s).tags = s.tags ∧
      (countHold lane s).triggers = s.triggers ∧ (countHold lane s).log = s.log ∧ (countHold lane s).events = s.events ∧
      (countHold lane s).faults = s.faults ∧ (countHold lane s).mode = s.mode ∧ (countHold lane s).resume = s.resume ∧
      (countHold lane s).quiesceTimer = s.quiesceTimer ∧ (countHold lane s).limits = s.limits ∧ (countHold lane s).straps = s.straps ∧
      (countHold lane s).resetCause = s.resetCause ∧ (countHold lane s).port = s.port ∧ (countHold lane s).scanDue = s.scanDue ∧
      (countHold lane s).evalDue = s.evalDue ∧ (countHold lane s).pending = s.pending := by
  unfold countHold
  split <;> simp

/-- A refusal counted: lanes alone. -/
@[simp] theorem countRefusal_fields (lane : Option LaneId) (s : State) :
    (countRefusal lane s).phase = s.phase ∧ (countRefusal lane s).timebase = s.timebase ∧ (countRefusal lane s).offered = s.offered ∧
      (countRefusal lane s).downRequest = s.downRequest ∧ (countRefusal lane s).downResponse = s.downResponse ∧ (countRefusal lane s).upResponse = s.upResponse ∧
      (countRefusal lane s).localQueue = s.localQueue ∧ (countRefusal lane s).turn = s.turn ∧ (countRefusal lane s).rules = s.rules ∧
      (countRefusal lane s).gens = s.gens ∧ (countRefusal lane s).hold = s.hold ∧ (countRefusal lane s).tags = s.tags ∧
      (countRefusal lane s).triggers = s.triggers ∧ (countRefusal lane s).log = s.log ∧ (countRefusal lane s).events = s.events ∧
      (countRefusal lane s).faults = s.faults ∧ (countRefusal lane s).mode = s.mode ∧ (countRefusal lane s).resume = s.resume ∧
      (countRefusal lane s).quiesceTimer = s.quiesceTimer ∧ (countRefusal lane s).limits = s.limits ∧ (countRefusal lane s).straps = s.straps ∧
      (countRefusal lane s).resetCause = s.resetCause ∧ (countRefusal lane s).port = s.port ∧ (countRefusal lane s).scanDue = s.scanDue ∧
      (countRefusal lane s).evalDue = s.evalDue ∧ (countRefusal lane s).pending = s.pending := by
  unfold countRefusal
  split <;> simp

/-- A record stored: log and events alone. -/
@[simp] theorem storeRecord_fields (r : CaptureRecord) (s : State) :
    (storeRecord r s).phase = s.phase ∧ (storeRecord r s).timebase = s.timebase ∧ (storeRecord r s).offered = s.offered ∧
      (storeRecord r s).downRequest = s.downRequest ∧ (storeRecord r s).downResponse = s.downResponse ∧ (storeRecord r s).upResponse = s.upResponse ∧
      (storeRecord r s).localQueue = s.localQueue ∧ (storeRecord r s).turn = s.turn ∧ (storeRecord r s).rules = s.rules ∧
      (storeRecord r s).lanes = s.lanes ∧ (storeRecord r s).gens = s.gens ∧ (storeRecord r s).hold = s.hold ∧
      (storeRecord r s).tags = s.tags ∧ (storeRecord r s).triggers = s.triggers ∧ (storeRecord r s).faults = s.faults ∧
      (storeRecord r s).mode = s.mode ∧ (storeRecord r s).resume = s.resume ∧ (storeRecord r s).quiesceTimer = s.quiesceTimer ∧
      (storeRecord r s).limits = s.limits ∧ (storeRecord r s).straps = s.straps ∧ (storeRecord r s).resetCause = s.resetCause ∧
      (storeRecord r s).port = s.port ∧ (storeRecord r s).scanDue = s.scanDue ∧ (storeRecord r s).evalDue = s.evalDue ∧
      (storeRecord r s).pending = s.pending := by
  simp only [storeRecord]
  split <;> simp

/-- A loss: log and events alone. -/
@[simp] theorem loseRecord_fields (r : CaptureRecord) (s : State) :
    (loseRecord r s).phase = s.phase ∧ (loseRecord r s).timebase = s.timebase ∧ (loseRecord r s).offered = s.offered ∧
      (loseRecord r s).downRequest = s.downRequest ∧ (loseRecord r s).downResponse = s.downResponse ∧ (loseRecord r s).upResponse = s.upResponse ∧
      (loseRecord r s).localQueue = s.localQueue ∧ (loseRecord r s).turn = s.turn ∧ (loseRecord r s).rules = s.rules ∧
      (loseRecord r s).lanes = s.lanes ∧ (loseRecord r s).gens = s.gens ∧ (loseRecord r s).hold = s.hold ∧
      (loseRecord r s).tags = s.tags ∧ (loseRecord r s).triggers = s.triggers ∧ (loseRecord r s).faults = s.faults ∧
      (loseRecord r s).mode = s.mode ∧ (loseRecord r s).resume = s.resume ∧ (loseRecord r s).quiesceTimer = s.quiesceTimer ∧
      (loseRecord r s).limits = s.limits ∧ (loseRecord r s).straps = s.straps ∧ (loseRecord r s).resetCause = s.resetCause ∧
      (loseRecord r s).port = s.port ∧ (loseRecord r s).scanDue = s.scanDue ∧ (loseRecord r s).evalDue = s.evalDue ∧
      (loseRecord r s).pending = s.pending := by
  simp [loseRecord]

/-- A record's arrival: log and events alone. -/
@[simp] theorem logRecord_fields (b : RecordBody) (s : State) :
    (logRecord b s).phase = s.phase ∧ (logRecord b s).timebase = s.timebase ∧ (logRecord b s).offered = s.offered ∧
      (logRecord b s).downRequest = s.downRequest ∧ (logRecord b s).downResponse = s.downResponse ∧ (logRecord b s).upResponse = s.upResponse ∧
      (logRecord b s).localQueue = s.localQueue ∧ (logRecord b s).turn = s.turn ∧ (logRecord b s).rules = s.rules ∧
      (logRecord b s).lanes = s.lanes ∧ (logRecord b s).gens = s.gens ∧ (logRecord b s).hold = s.hold ∧
      (logRecord b s).tags = s.tags ∧ (logRecord b s).triggers = s.triggers ∧ (logRecord b s).faults = s.faults ∧
      (logRecord b s).mode = s.mode ∧ (logRecord b s).resume = s.resume ∧ (logRecord b s).quiesceTimer = s.quiesceTimer ∧
      (logRecord b s).limits = s.limits ∧ (logRecord b s).straps = s.straps ∧ (logRecord b s).resetCause = s.resetCause ∧
      (logRecord b s).port = s.port ∧ (logRecord b s).scanDue = s.scanDue ∧ (logRecord b s).evalDue = s.evalDue ∧
      (logRecord b s).pending = s.pending := by
  simp only [logRecord]
  split <;> simp

/-- The triggers' evaluation: triggers, log and events alone. -/
@[simp] theorem evaluateTriggers_fields (p : Passage) (shown : Shown) (s : State) :
    (evaluateTriggers p shown s).phase = s.phase ∧ (evaluateTriggers p shown s).timebase = s.timebase ∧ (evaluateTriggers p shown s).offered = s.offered ∧
      (evaluateTriggers p shown s).downRequest = s.downRequest ∧ (evaluateTriggers p shown s).downResponse = s.downResponse ∧ (evaluateTriggers p shown s).upResponse = s.upResponse ∧
      (evaluateTriggers p shown s).localQueue = s.localQueue ∧ (evaluateTriggers p shown s).turn = s.turn ∧ (evaluateTriggers p shown s).rules = s.rules ∧
      (evaluateTriggers p shown s).lanes = s.lanes ∧ (evaluateTriggers p shown s).gens = s.gens ∧ (evaluateTriggers p shown s).hold = s.hold ∧
      (evaluateTriggers p shown s).tags = s.tags ∧ (evaluateTriggers p shown s).faults = s.faults ∧ (evaluateTriggers p shown s).mode = s.mode ∧
      (evaluateTriggers p shown s).resume = s.resume ∧ (evaluateTriggers p shown s).quiesceTimer = s.quiesceTimer ∧ (evaluateTriggers p shown s).limits = s.limits ∧
      (evaluateTriggers p shown s).straps = s.straps ∧ (evaluateTriggers p shown s).resetCause = s.resetCause ∧ (evaluateTriggers p shown s).port = s.port ∧
      (evaluateTriggers p shown s).scanDue = s.scanDue ∧ (evaluateTriggers p shown s).evalDue = s.evalDue ∧ (evaluateTriggers p shown s).pending = s.pending := by
  unfold evaluateTriggers
  split <;> simp

/-- A REFUSAL record: log and events alone. -/
@[simp] theorem logRefusal_fields (b : Bool) (r : RecordRequest) (lane : Option LaneId) (rule : Option RuleId) (st : Status) (s : State) :
    (logRefusal b r lane rule st s).phase = s.phase ∧ (logRefusal b r lane rule st s).timebase = s.timebase ∧ (logRefusal b r lane rule st s).offered = s.offered ∧
      (logRefusal b r lane rule st s).downRequest = s.downRequest ∧ (logRefusal b r lane rule st s).downResponse = s.downResponse ∧ (logRefusal b r lane rule st s).upResponse = s.upResponse ∧
      (logRefusal b r lane rule st s).localQueue = s.localQueue ∧ (logRefusal b r lane rule st s).turn = s.turn ∧ (logRefusal b r lane rule st s).rules = s.rules ∧
      (logRefusal b r lane rule st s).lanes = s.lanes ∧ (logRefusal b r lane rule st s).gens = s.gens ∧ (logRefusal b r lane rule st s).hold = s.hold ∧
      (logRefusal b r lane rule st s).tags = s.tags ∧ (logRefusal b r lane rule st s).triggers = s.triggers ∧ (logRefusal b r lane rule st s).faults = s.faults ∧
      (logRefusal b r lane rule st s).mode = s.mode ∧ (logRefusal b r lane rule st s).resume = s.resume ∧ (logRefusal b r lane rule st s).quiesceTimer = s.quiesceTimer ∧
      (logRefusal b r lane rule st s).limits = s.limits ∧ (logRefusal b r lane rule st s).straps = s.straps ∧ (logRefusal b r lane rule st s).resetCause = s.resetCause ∧
      (logRefusal b r lane rule st s).port = s.port ∧ (logRefusal b r lane rule st s).scanDue = s.scanDue ∧ (logRefusal b r lane rule st s).evalDue = s.evalDue ∧
      (logRefusal b r lane rule st s).pending = s.pending := by
  unfold logRefusal
  split <;> simp

/-- A SCREEN_MARK record: log and events alone. -/
@[simp] theorem logScreenMark_fields (j : Judged) (shown : Shown) (s : State) :
    (logScreenMark j shown s).phase = s.phase ∧ (logScreenMark j shown s).timebase = s.timebase ∧ (logScreenMark j shown s).offered = s.offered ∧
      (logScreenMark j shown s).downRequest = s.downRequest ∧ (logScreenMark j shown s).downResponse = s.downResponse ∧ (logScreenMark j shown s).upResponse = s.upResponse ∧
      (logScreenMark j shown s).localQueue = s.localQueue ∧ (logScreenMark j shown s).turn = s.turn ∧ (logScreenMark j shown s).rules = s.rules ∧
      (logScreenMark j shown s).lanes = s.lanes ∧ (logScreenMark j shown s).gens = s.gens ∧ (logScreenMark j shown s).hold = s.hold ∧
      (logScreenMark j shown s).tags = s.tags ∧ (logScreenMark j shown s).triggers = s.triggers ∧ (logScreenMark j shown s).faults = s.faults ∧
      (logScreenMark j shown s).mode = s.mode ∧ (logScreenMark j shown s).resume = s.resume ∧ (logScreenMark j shown s).quiesceTimer = s.quiesceTimer ∧
      (logScreenMark j shown s).limits = s.limits ∧ (logScreenMark j shown s).straps = s.straps ∧ (logScreenMark j shown s).resetCause = s.resetCause ∧
      (logScreenMark j shown s).port = s.port ∧ (logScreenMark j shown s).scanDue = s.scanDue ∧ (logScreenMark j shown s).evalDue = s.evalDue ∧
      (logScreenMark j shown s).pending = s.pending := by
  unfold logScreenMark
  split <;> simp

/-- HOLD_OVERFLOW: events and faults alone. -/
@[simp] theorem noteOverflow_fields (j : Judged) (st : Status) (s : State) :
    (noteOverflow j st s).phase = s.phase ∧ (noteOverflow j st s).timebase = s.timebase ∧ (noteOverflow j st s).offered = s.offered ∧
      (noteOverflow j st s).downRequest = s.downRequest ∧ (noteOverflow j st s).downResponse = s.downResponse ∧ (noteOverflow j st s).upResponse = s.upResponse ∧
      (noteOverflow j st s).localQueue = s.localQueue ∧ (noteOverflow j st s).turn = s.turn ∧ (noteOverflow j st s).rules = s.rules ∧
      (noteOverflow j st s).lanes = s.lanes ∧ (noteOverflow j st s).gens = s.gens ∧ (noteOverflow j st s).hold = s.hold ∧
      (noteOverflow j st s).tags = s.tags ∧ (noteOverflow j st s).triggers = s.triggers ∧ (noteOverflow j st s).log = s.log ∧
      (noteOverflow j st s).mode = s.mode ∧ (noteOverflow j st s).resume = s.resume ∧ (noteOverflow j st s).quiesceTimer = s.quiesceTimer ∧
      (noteOverflow j st s).limits = s.limits ∧ (noteOverflow j st s).straps = s.straps ∧ (noteOverflow j st s).resetCause = s.resetCause ∧
      (noteOverflow j st s).port = s.port ∧ (noteOverflow j st s).scanDue = s.scanDue ∧ (noteOverflow j st s).evalDue = s.evalDue ∧
      (noteOverflow j st s).pending = s.pending := by
  unfold noteOverflow
  split <;> simp

/-- TAGS_LOW: events alone. -/
@[simp] theorem noteOrphans_fields (s : State) :
    (noteOrphans s).phase = s.phase ∧ (noteOrphans s).timebase = s.timebase ∧ (noteOrphans s).offered = s.offered ∧
      (noteOrphans s).downRequest = s.downRequest ∧ (noteOrphans s).downResponse = s.downResponse ∧ (noteOrphans s).upResponse = s.upResponse ∧
      (noteOrphans s).localQueue = s.localQueue ∧ (noteOrphans s).turn = s.turn ∧ (noteOrphans s).rules = s.rules ∧
      (noteOrphans s).lanes = s.lanes ∧ (noteOrphans s).gens = s.gens ∧ (noteOrphans s).hold = s.hold ∧
      (noteOrphans s).tags = s.tags ∧ (noteOrphans s).triggers = s.triggers ∧ (noteOrphans s).log = s.log ∧
      (noteOrphans s).faults = s.faults ∧ (noteOrphans s).mode = s.mode ∧ (noteOrphans s).resume = s.resume ∧
      (noteOrphans s).quiesceTimer = s.quiesceTimer ∧ (noteOrphans s).limits = s.limits ∧ (noteOrphans s).straps = s.straps ∧
      (noteOrphans s).resetCause = s.resetCause ∧ (noteOrphans s).port = s.port ∧ (noteOrphans s).scanDue = s.scanDue ∧
      (noteOrphans s).evalDue = s.evalDue ∧ (noteOrphans s).pending = s.pending := by
  unfold noteOrphans
  split <;> simp

/-- A scan's EXHAUSTED: lanes and events alone. -/
@[simp] theorem noteShorts_fields (ls : List LaneId) (s : State) :
    (noteShorts ls s).phase = s.phase ∧ (noteShorts ls s).timebase = s.timebase ∧ (noteShorts ls s).offered = s.offered ∧
      (noteShorts ls s).downRequest = s.downRequest ∧ (noteShorts ls s).downResponse = s.downResponse ∧ (noteShorts ls s).upResponse = s.upResponse ∧
      (noteShorts ls s).localQueue = s.localQueue ∧ (noteShorts ls s).turn = s.turn ∧ (noteShorts ls s).rules = s.rules ∧
      (noteShorts ls s).gens = s.gens ∧ (noteShorts ls s).hold = s.hold ∧ (noteShorts ls s).tags = s.tags ∧
      (noteShorts ls s).triggers = s.triggers ∧ (noteShorts ls s).log = s.log ∧ (noteShorts ls s).faults = s.faults ∧
      (noteShorts ls s).mode = s.mode ∧ (noteShorts ls s).resume = s.resume ∧ (noteShorts ls s).quiesceTimer = s.quiesceTimer ∧
      (noteShorts ls s).limits = s.limits ∧ (noteShorts ls s).straps = s.straps ∧ (noteShorts ls s).resetCause = s.resetCause ∧
      (noteShorts ls s).port = s.port ∧ (noteShorts ls s).scanDue = s.scanDue ∧ (noteShorts ls s).evalDue = s.evalDue ∧
      (noteShorts ls s).pending = s.pending := by
  unfold noteShorts
  induction ls generalizing s with
  | nil => simp
  | cons l ls ih => simpa using ih (noteExhausted l s)

/-- A grant: the channel, a tag, lanes and events alone. -/
@[simp] theorem grant_fields (p : Passage) (t : DownTag) (s : State) :
    (grant p t s).phase = s.phase ∧ (grant p t s).timebase = s.timebase ∧ (grant p t s).offered = s.offered ∧
      (grant p t s).downResponse = s.downResponse ∧ (grant p t s).upResponse = s.upResponse ∧ (grant p t s).localQueue = s.localQueue ∧
      (grant p t s).turn = s.turn ∧ (grant p t s).rules = s.rules ∧ (grant p t s).gens = s.gens ∧
      (grant p t s).hold = s.hold ∧ (grant p t s).triggers = s.triggers ∧ (grant p t s).log = s.log ∧
      (grant p t s).faults = s.faults ∧ (grant p t s).mode = s.mode ∧ (grant p t s).resume = s.resume ∧
      (grant p t s).quiesceTimer = s.quiesceTimer ∧ (grant p t s).limits = s.limits ∧ (grant p t s).straps = s.straps ∧
      (grant p t s).resetCause = s.resetCause ∧ (grant p t s).port = s.port ∧ (grant p t s).scanDue = s.scanDue ∧
      (grant p t s).evalDue = s.evalDue ∧ (grant p t s).pending = s.pending := by
  simp [grant]

/-- An entry's leaving LIVE: lanes, tags, and what it brings on. -/
@[simp] theorem leaveLive_fields (t : DownTag) (f : Flight) (e : TagEntry) (s : State) :
    (leaveLive t f e s).phase = s.phase ∧ (leaveLive t f e s).timebase = s.timebase ∧ (leaveLive t f e s).offered = s.offered ∧
      (leaveLive t f e s).downRequest = s.downRequest ∧ (leaveLive t f e s).downResponse = s.downResponse ∧ (leaveLive t f e s).upResponse = s.upResponse ∧
      (leaveLive t f e s).localQueue = s.localQueue ∧ (leaveLive t f e s).turn = s.turn ∧ (leaveLive t f e s).rules = s.rules ∧
      (leaveLive t f e s).gens = s.gens ∧ (leaveLive t f e s).hold = s.hold ∧ (leaveLive t f e s).triggers = s.triggers ∧
      (leaveLive t f e s).log = s.log ∧ (leaveLive t f e s).events = s.events ∧ (leaveLive t f e s).faults = s.faults ∧
      (leaveLive t f e s).mode = s.mode ∧ (leaveLive t f e s).resume = s.resume ∧ (leaveLive t f e s).quiesceTimer = s.quiesceTimer ∧
      (leaveLive t f e s).limits = s.limits ∧ (leaveLive t f e s).straps = s.straps ∧ (leaveLive t f e s).resetCause = s.resetCause ∧
      (leaveLive t f e s).port = s.port ∧ (leaveLive t f e s).pending = s.pending := by
  simp [leaveLive]

/-- What a leaving by a local response counts and records: lanes, log and events alone. -/
@[simp] theorem recordLeaving_fields (e : HoldEntry) (r : HoldRefusal) (s : State) :
    (recordLeaving e r s).phase = s.phase ∧ (recordLeaving e r s).timebase = s.timebase ∧ (recordLeaving e r s).offered = s.offered ∧
      (recordLeaving e r s).downRequest = s.downRequest ∧ (recordLeaving e r s).downResponse = s.downResponse ∧ (recordLeaving e r s).upResponse = s.upResponse ∧
      (recordLeaving e r s).localQueue = s.localQueue ∧ (recordLeaving e r s).turn = s.turn ∧ (recordLeaving e r s).rules = s.rules ∧
      (recordLeaving e r s).gens = s.gens ∧ (recordLeaving e r s).hold = s.hold ∧ (recordLeaving e r s).tags = s.tags ∧
      (recordLeaving e r s).triggers = s.triggers ∧ (recordLeaving e r s).faults = s.faults ∧ (recordLeaving e r s).mode = s.mode ∧
      (recordLeaving e r s).resume = s.resume ∧ (recordLeaving e r s).quiesceTimer = s.quiesceTimer ∧ (recordLeaving e r s).limits = s.limits ∧
      (recordLeaving e r s).straps = s.straps ∧ (recordLeaving e r s).resetCause = s.resetCause ∧ (recordLeaving e r s).port = s.port ∧
      (recordLeaving e r s).scanDue = s.scanDue ∧ (recordLeaving e r s).evalDue = s.evalDue ∧ (recordLeaving e r s).pending = s.pending := by
  unfold recordLeaving
  split
  · dsimp only
    split <;> simp
  · simp
  · simp

/-- A quiesce's completion: the Mode Controller, events, and what it brings on. -/
@[simp] theorem completeQuiesce_fields (s : State) :
    (completeQuiesce s).phase = s.phase ∧ (completeQuiesce s).timebase = s.timebase ∧ (completeQuiesce s).offered = s.offered ∧
      (completeQuiesce s).downRequest = s.downRequest ∧ (completeQuiesce s).downResponse = s.downResponse ∧ (completeQuiesce s).upResponse = s.upResponse ∧
      (completeQuiesce s).localQueue = s.localQueue ∧ (completeQuiesce s).turn = s.turn ∧ (completeQuiesce s).rules = s.rules ∧
      (completeQuiesce s).lanes = s.lanes ∧ (completeQuiesce s).gens = s.gens ∧ (completeQuiesce s).hold = s.hold ∧
      (completeQuiesce s).tags = s.tags ∧ (completeQuiesce s).triggers = s.triggers ∧ (completeQuiesce s).log = s.log ∧
      (completeQuiesce s).faults = s.faults ∧ (completeQuiesce s).resume = s.resume ∧ (completeQuiesce s).limits = s.limits ∧
      (completeQuiesce s).straps = s.straps ∧ (completeQuiesce s).resetCause = s.resetCause ∧ (completeQuiesce s).port = s.port ∧
      (completeQuiesce s).pending = s.pending := by
  unfold completeQuiesce
  split <;> simp

/-- A RESTART's completion: the Mode Controller, period state, triggers, events, and what it brings on. -/
@[simp] theorem completeRestart_fields (s : State) :
    (completeRestart s).phase = s.phase ∧ (completeRestart s).timebase = s.timebase ∧ (completeRestart s).offered = s.offered ∧
      (completeRestart s).downRequest = s.downRequest ∧ (completeRestart s).downResponse = s.downResponse ∧ (completeRestart s).upResponse = s.upResponse ∧
      (completeRestart s).localQueue = s.localQueue ∧ (completeRestart s).turn = s.turn ∧ (completeRestart s).rules = s.rules ∧
      (completeRestart s).hold = s.hold ∧ (completeRestart s).tags = s.tags ∧ (completeRestart s).log = s.log ∧
      (completeRestart s).faults = s.faults ∧ (completeRestart s).resume = s.resume ∧ (completeRestart s).quiesceTimer = s.quiesceTimer ∧
      (completeRestart s).limits = s.limits ∧ (completeRestart s).straps = s.straps ∧ (completeRestart s).resetCause = s.resetCause ∧
      (completeRestart s).port = s.port ∧ (completeRestart s).pending = s.pending := by
  unfold completeRestart
  split <;> simp

/-- Both completions together. -/
@[simp] theorem judgeDrained_fields (s : State) :
    (judgeDrained s).phase = s.phase ∧ (judgeDrained s).timebase = s.timebase ∧ (judgeDrained s).offered = s.offered ∧
      (judgeDrained s).downRequest = s.downRequest ∧ (judgeDrained s).downResponse = s.downResponse ∧ (judgeDrained s).upResponse = s.upResponse ∧
      (judgeDrained s).localQueue = s.localQueue ∧ (judgeDrained s).turn = s.turn ∧ (judgeDrained s).rules = s.rules ∧
      (judgeDrained s).hold = s.hold ∧ (judgeDrained s).tags = s.tags ∧ (judgeDrained s).log = s.log ∧
      (judgeDrained s).faults = s.faults ∧ (judgeDrained s).resume = s.resume ∧ (judgeDrained s).limits = s.limits ∧
      (judgeDrained s).straps = s.straps ∧ (judgeDrained s).resetCause = s.resetCause ∧ (judgeDrained s).port = s.port ∧
      (judgeDrained s).pending = s.pending := by
  simp [judgeDrained]

/-- A lane's replenishment: lanes, log, events, and what it brings on. -/
@[simp] theorem replenish_fields (g : Gen) (commit : Bool) (l : LaneId) (s : State) :
    (replenish g commit l s).phase = s.phase ∧ (replenish g commit l s).timebase = s.timebase ∧ (replenish g commit l s).offered = s.offered ∧
      (replenish g commit l s).downRequest = s.downRequest ∧ (replenish g commit l s).downResponse = s.downResponse ∧ (replenish g commit l s).upResponse = s.upResponse ∧
      (replenish g commit l s).localQueue = s.localQueue ∧ (replenish g commit l s).turn = s.turn ∧ (replenish g commit l s).rules = s.rules ∧
      (replenish g commit l s).gens = s.gens ∧ (replenish g commit l s).hold = s.hold ∧ (replenish g commit l s).tags = s.tags ∧
      (replenish g commit l s).triggers = s.triggers ∧ (replenish g commit l s).faults = s.faults ∧ (replenish g commit l s).mode = s.mode ∧
      (replenish g commit l s).resume = s.resume ∧ (replenish g commit l s).quiesceTimer = s.quiesceTimer ∧ (replenish g commit l s).limits = s.limits ∧
      (replenish g commit l s).straps = s.straps ∧ (replenish g commit l s).resetCause = s.resetCause ∧ (replenish g commit l s).port = s.port ∧
      (replenish g commit l s).pending = s.pending := by
  simp only [replenish]
  split <;> simp

/-- The replenishments of an expiry: lanes, log, events, and what they bring on. -/
@[simp] theorem replenishBound_fields (g : Gen) (commit : Bool) (s : State) :
    (replenishBound g commit s).phase = s.phase ∧ (replenishBound g commit s).timebase = s.timebase ∧ (replenishBound g commit s).offered = s.offered ∧
      (replenishBound g commit s).downRequest = s.downRequest ∧ (replenishBound g commit s).downResponse = s.downResponse ∧ (replenishBound g commit s).upResponse = s.upResponse ∧
      (replenishBound g commit s).localQueue = s.localQueue ∧ (replenishBound g commit s).turn = s.turn ∧ (replenishBound g commit s).rules = s.rules ∧
      (replenishBound g commit s).gens = s.gens ∧ (replenishBound g commit s).hold = s.hold ∧ (replenishBound g commit s).tags = s.tags ∧
      (replenishBound g commit s).triggers = s.triggers ∧ (replenishBound g commit s).faults = s.faults ∧ (replenishBound g commit s).mode = s.mode ∧
      (replenishBound g commit s).resume = s.resume ∧ (replenishBound g commit s).quiesceTimer = s.quiesceTimer ∧ (replenishBound g commit s).limits = s.limits ∧
      (replenishBound g commit s).straps = s.straps ∧ (replenishBound g commit s).resetCause = s.resetCause ∧ (replenishBound g commit s).port = s.port ∧
      (replenishBound g commit s).pending = s.pending := by
  unfold replenishBound
  induction List.finRange 16 generalizing s with
  | nil => simp
  | cons l ls ih =>
    rw [List.foldl_cons]
    split
    · simpa using ih (replenish g commit l s)
    · simpa using ih s

/-- A generator's own part of its expiry: generators and events alone. -/
@[simp] theorem expireGen_fields (g : Gen) (s : State) :
    (expireGen g s).phase = s.phase ∧ (expireGen g s).timebase = s.timebase ∧ (expireGen g s).offered = s.offered ∧
      (expireGen g s).downRequest = s.downRequest ∧ (expireGen g s).downResponse = s.downResponse ∧ (expireGen g s).upResponse = s.upResponse ∧
      (expireGen g s).localQueue = s.localQueue ∧ (expireGen g s).turn = s.turn ∧ (expireGen g s).rules = s.rules ∧
      (expireGen g s).lanes = s.lanes ∧ (expireGen g s).hold = s.hold ∧ (expireGen g s).tags = s.tags ∧
      (expireGen g s).triggers = s.triggers ∧ (expireGen g s).log = s.log ∧ (expireGen g s).faults = s.faults ∧
      (expireGen g s).mode = s.mode ∧ (expireGen g s).resume = s.resume ∧ (expireGen g s).quiesceTimer = s.quiesceTimer ∧
      (expireGen g s).limits = s.limits ∧ (expireGen g s).straps = s.straps ∧ (expireGen g s).resetCause = s.resetCause ∧
      (expireGen g s).port = s.port ∧ (expireGen g s).scanDue = s.scanDue ∧ (expireGen g s).evalDue = s.evalDue ∧
      (expireGen g s).pending = s.pending := by
  simp only [expireGen]
  split <;> simp

/-- An expiry: generators, lanes, triggers, log, events, and what it brings on. -/
@[simp] theorem expire_fields (g : Gen) (s : State) :
    (expire g s).phase = s.phase ∧ (expire g s).timebase = s.timebase ∧ (expire g s).offered = s.offered ∧
      (expire g s).downRequest = s.downRequest ∧ (expire g s).downResponse = s.downResponse ∧ (expire g s).upResponse = s.upResponse ∧
      (expire g s).localQueue = s.localQueue ∧ (expire g s).turn = s.turn ∧ (expire g s).rules = s.rules ∧
      (expire g s).hold = s.hold ∧ (expire g s).tags = s.tags ∧ (expire g s).faults = s.faults ∧
      (expire g s).mode = s.mode ∧ (expire g s).resume = s.resume ∧ (expire g s).quiesceTimer = s.quiesceTimer ∧
      (expire g s).limits = s.limits ∧ (expire g s).straps = s.straps ∧ (expire g s).resetCause = s.resetCause ∧
      (expire g s).port = s.port ∧ (expire g s).pending = s.pending := by
  simp [expire]

end Sys2Proof.Machine
end

