-- ==== Sys2Proof/Laws/Ops.lean ====
section
/-! SUPPORT. What the shared operations do, said once: a law for each, which proofs cite in place of unfolding it. -/

namespace Sys2Proof.Machine

/-! ## Tables -/

/-- A table mapped by `mapVec`, entry by entry. -/
@[simp] theorem mapVec_getElem {α β : Type} {n : Nat} (f : Fin n → α → β) (v : Vector α n) (i : Nat) (h : i < n) :
    (mapVec f v)[i] = f ⟨i, h⟩ v[i] := by
  simp [mapVec]

/-- A table mapped by `mapVec`, entry by entry, with a bounded index. -/
@[simp] theorem mapVec_get_fin {α β : Type} {n : Nat} (f : Fin n → α → β) (v : Vector α n) (i : Fin n) :
    (mapVec f v)[i] = f i v[i] := by
  simp

/-- A count over a list after one place has changed. -/
theorem countP_set {α : Type} (p : α → Bool) (xs : List α) (i : Nat) (h : i < xs.length) (a : α) :
    (xs.set i a).countP p + (if p xs[i] then 1 else 0) = xs.countP p + (if p a then 1 else 0) := by
  induction xs generalizing i with
  | nil => simp at h
  | cons x xs ih =>
    cases i with
    | zero => simp only [List.set_cons_zero, List.countP_cons, List.getElem_cons_zero]; omega
    | succ i =>
      have := ih i (by simpa using h)
      simp only [List.set_cons_succ, List.countP_cons, List.getElem_cons_succ]
      omega

/-- A count over the In-Flight Table after entry `t` has become `e`. -/
theorem countTags_setTag (p : TagEntry → Bool) (t : DownTag) (e : TagEntry) (s : State) :
    countTags p (setTag t e s) + (if p s.tags[t] then 1 else 0) = countTags p s + (if p e then 1 else 0) := by
  have h := countP_set p s.tags.toList t (by simp) e
  simpa [countTags, setTag, Vector.toList_set] using h

/-- The lowest FREE tag is FREE, and every lower tag is not (R99). -/
theorem lowestFree_some {s : State} {t : DownTag} (h : lowestFree s = some t) :
    s.tags[t].isFree = true ∧ ∀ u < t, s.tags[u].isFree = false := by
  unfold lowestFree at h
  obtain ⟨h1, as, bs, h2, h3⟩ := List.find?_eq_some_iff_append.mp h
  refine ⟨h1, fun u hu => ?_⟩
  have hs : (as ++ t :: bs).Pairwise (· < ·) := h2 ▸ List.pairwise_lt_finRange 128
  have hm : u ∈ as ++ t :: bs := h2 ▸ List.mem_finRange u
  rcases List.mem_append.mp hm with h4 | h4
  · simpa using h3 u h4
  · rcases List.mem_cons.mp h4 with h5 | h5
    · exact absurd (h5 ▸ hu) (lt_irrefl _)
    · have := (List.pairwise_cons.mp (List.pairwise_append.mp hs).2.1).1 u h5
      exact absurd (lt_trans hu this) (lt_irrefl _)

/-- There is no lowest FREE tag exactly when no tag is FREE (R113). -/
theorem lowestFree_none {s : State} : lowestFree s = none ↔ ∀ t : DownTag, s.tags[t].isFree = false := by
  simp [lowestFree]

/-! ## Running and resets -/

/-- While no reset lasts, an event takes place. -/
theorem whileRunning_running {f : State → State} {s : State} (h : s.phase = .running) :
    whileRunning f s = .next (f s) := by
  simp [whileRunning, h]

/-- While a reset lasts, an event leaves the state as it is (R19, R150). -/
theorem whileRunning_inReset {f : State → State} {s : State} {c : ResetCause} (h : s.phase = .inReset c) :
    whileRunning f s = .next s := by
  simp [whileRunning, h]

/-- An event that runs only outside a reset answers a next state, and says which. -/
theorem whileRunning_next {f : State → State} {s t : State} (h : whileRunning f s = .next t) :
    (s.phase = .running ∧ t = f s) ∨ (∃ c, s.phase = .inReset c) ∧ t = s := by
  unfold whileRunning at h
  split at h
  · exact .inl ⟨‹_›, by simpa using h.symm⟩
  · exact .inr ⟨⟨_, ‹_›⟩, by simpa using h.symm⟩

/-! ## Events (R134) -/

/-- A raise, flag by flag. -/
theorem raise_flags (f : Flag) (e : Events) (i : Fin 13) :
    (e.raise f).flags[i] = if i = f.code then (e.flags[i]).raised else e.flags[i] := by
  by_cases h : i = f.code
  · subst h; simp [Events.raise]
  · have : (f.code : Nat) ≠ i := fun hh => h (Fin.ext hh.symm)
    simp [Events.raise, h, this]

/-- A raise without a member leaves the three sets. -/
@[simp] theorem raise_sets (f : Flag) (e : Events) :
    (e.raise f).watermarkLanes = e.watermarkLanes ∧ (e.raise f).exhaustedLanes = e.exhaustedLanes ∧
      (e.raise f).commitGens = e.commitGens := by
  and_intros <;> rfl

/-! ## Credit (R50, R51) -/

/-- EXHAUSTED is noted once a period. -/
theorem noteExhausted_cases (l : LaneId) (s : State) :
    (s.lanes[l].exhausted = true ∧ noteExhausted l s = s) ∨
      (s.lanes[l].exhausted = false ∧
        noteExhausted l s = raiseExhausted l (updateLane l (fun x => { x with exhausted := true }) s)) := by
  unfold noteExhausted
  cases h : s.lanes[l].exhausted <;> simp

/-- WATERMARK is noted once a period, when the watermark is reached. -/
theorem noteWatermark_cases (l : LaneId) (s : State) :
    (s.lanes[l].atWatermark = true ∧ s.lanes[l].watermarkReached = false ∧
        noteWatermark l s = raiseWatermark l (updateLane l (fun x => { x with watermarkReached := true }) s)) ∨
      ((s.lanes[l].atWatermark = false ∨ s.lanes[l].watermarkReached = true) ∧ noteWatermark l s = s) := by
  unfold noteWatermark
  cases h : s.lanes[l].atWatermark <;> cases h' : s.lanes[l].watermarkReached <;> simp

/-- One lane replaced, lane by lane. -/
theorem updateLane_lane (l k : LaneId) (f : Lane → Lane) (s : State) :
    (updateLane l f s).lanes[k] = if k = l then f s.lanes[l] else s.lanes[k] := by
  by_cases h : k = l
  · subst h; simp [updateLane]
  · have : (l : Nat) ≠ k := fun hh => h (Fin.ext hh.symm)
    simp [updateLane, h, this]

/-- EXHAUSTED noted, lane by lane: the flag of that lane is set (R51). -/
theorem noteExhausted_lane (l k : LaneId) (s : State) :
    (noteExhausted l s).lanes[k] =
      { s.lanes[k] with exhausted := s.lanes[k].exhausted || decide (k = l) } := by
  rcases noteExhausted_cases l s with ⟨h, h'⟩ | ⟨h, h'⟩ <;> rw [h']
  · by_cases hk : k = l
    · subst hk; rw [h]; simp [← h]
    · simp [hk]
  · simp only [show ∀ x, (raiseExhausted l x).lanes = x.lanes from fun _ => rfl, updateLane_lane]
    by_cases hk : k = l
    · subst hk; simp
    · simp [hk]

/-- EXHAUSTED noted for a list of lanes, lane by lane: their flags are set (R51, R84). -/
theorem noteShorts_lane (ls : List LaneId) (k : LaneId) (s : State) :
    (noteShorts ls s).lanes[k] = { s.lanes[k] with exhausted := s.lanes[k].exhausted || decide (k ∈ ls) } := by
  induction ls generalizing s with
  | nil => simp [noteShorts]
  | cons l ls ih =>
    show (noteShorts ls (noteExhausted l s)).lanes[k] = _
    rw [ih, noteExhausted_lane]
    simp [Bool.or_assoc]

/-- Two raises of EXHAUSTED come to the same in either order. -/
theorem raiseExhausted_swap (a b : LaneId) (s : State) :
    raiseExhausted a (raiseExhausted b s) = raiseExhausted b (raiseExhausted a s) := by
  simp only [raiseExhausted, Events.raise, BitVec.or_assoc]
  rw [BitVec.or_comm (BitVec.twoPow 16 _)]

/-- What raises of EXHAUSTED leave in the Event Unit depends on the Event Unit alone. -/
theorem foldl_raiseExhausted_events (ls : List LaneId) (s t : State) (h : s.events = t.events) :
    (ls.foldl (fun v l => raiseExhausted l v) s).events = (ls.foldl (fun v l => raiseExhausted l v) t).events := by
  induction ls generalizing s t with
  | nil => exact h
  | cons l ls ih => exact ih _ _ (by simp [raiseExhausted, h])

/-- EXHAUSTED noted for a list of lanes raises once for each lane listed whose flag was clear (R51, R84). -/
theorem noteShorts_events (ls : List LaneId) (s : State) :
    (noteShorts ls s).events =
      (((List.finRange 16).filter (fun l : LaneId => decide (l ∈ ls) && !s.lanes[l].exhausted)).foldl
        (fun v l => raiseExhausted l v) s).events := by
  induction ls generalizing s with
  | nil => simp [noteShorts]
  | cons l ls ih =>
    show (noteShorts ls (noteExhausted l s)).events = _
    rw [ih]
    simp only [noteExhausted_lane]
    rcases noteExhausted_cases l s with ⟨h, h'⟩ | ⟨h, h'⟩
    · rw [h']
      congr 2
      apply List.filter_congr
      intro k _
      by_cases hk : k = l
      · subst hk; simpa using h
      · simp [hk]
    · have hp : ((List.finRange 16).filter (fun k : LaneId => decide (k ∈ l :: ls) && !s.lanes[k].exhausted)).Perm
          (l :: (List.finRange 16).filter (fun k : LaneId =>
            decide (k ∈ ls) && !(s.lanes[k].exhausted || decide (k = l)))) := by
        rw [List.perm_ext_iff_of_nodup]
        · intro k
          simp only [List.mem_filter, List.mem_finRange, true_and, List.mem_cons]
          by_cases hk : k = l
          · subst hk; simpa using h
          · simp [hk]
        · exact (List.nodup_finRange 16).filter _
        · exact List.nodup_cons.mpr ⟨by simp, (List.nodup_finRange 16).filter _⟩
      rw [hp.foldl_eq' (f := fun v l => raiseExhausted l v) (fun x _ y _ z => raiseExhausted_swap y x z)]
      refine foldl_raiseExhausted_events _ _ _ ?_
      rw [h']
      simp [raiseExhausted]

/-! ## The Capture Log (R124, R128, R129) -/

/-- A record that reaches a log with room. -/
theorem logRecord_stored {b : RecordBody} {s : State} (h : s.log.records.length < Config.logCapacity) :
    (logRecord b s).log =
        { records := s.log.records ++ [{ seq := s.log.next, timestamp := s.timebase, body := b }],
          next := s.log.next + 1, lost := s.log.lost } ∧
      (logRecord b s).events =
        if s.log.records.length + 1 = s.limits.logThreshold then s.events.raise .logLevel else s.events := by
  simp only [logRecord, h, if_true, storeRecord]
  split <;> simp [spendSeq, raise]

/-- A record that reaches a full log. -/
theorem logRecord_lost {b : RecordBody} {s : State} (h : ¬ s.log.records.length < Config.logCapacity) :
    (logRecord b s).log =
        { records := overflowed s.limits.logPolicy { seq := s.log.next, timestamp := s.timebase, body := b }
            s.log.records,
          next := s.log.next + 1, lost := satAdd Config.top16 s.log.lost 1 } ∧
      (logRecord b s).events = s.events.raise .logLost := by
  simp [logRecord, h, loseRecord, spendSeq, raise]

/-! ## The taking of a request (R7 to R12) -/

/-- A disposition other than a stall is given in an operating mode alone (R7). -/
theorem evaluate_operating {r : Request} {s : State} (h : evaluate r s ≠ .stall) :
    ∃ m, s.mode = .operating m := by
  unfold evaluate at h
  split at h
  · exact ⟨_, ‹_›⟩
  all_goals exact absurd rfl h

/-- What stands behind a decision that `ifSlot` lets through. -/
theorem ifSlot_cases (s : State) (d : Decision) :
    (slotFree s = true ∧ ifSlot s d = d) ∨ (slotFree s = false ∧ ifSlot s d = .stall) := by
  unfold ifSlot
  cases h : slotFree s <;> simp

/-- What a hold, or a hold without room, needs (R12, R95). -/
theorem holdOrFull_cases (j : Judged) (c : Cause) (s : State) :
    (hasRoom j.req s = true ∧ holdOrFull j c s = .hold j c) ∨
      (hasRoom j.req s = false ∧ s.limits.fullAction = .refuse ∧ slotFree s = true ∧
        holdOrFull j c s = .refuse j .refusedFull) ∨
      (hasRoom j.req s = false ∧ (s.limits.fullAction = .stall ∨ slotFree s = false) ∧
        holdOrFull j c s = .stall) := by
  unfold holdOrFull ifSlot
  cases h : hasRoom j.req s <;> cases h' : s.limits.fullAction <;> cases h'' : slotFree s <;> simp

/-- What a forward, or a forward that has to wait, needs (R11, R85). -/
theorem forwardOrWait_cases (j : Judged) (s : State) :
    (∃ t, lowestFree s = some t ∧ s.downRequest = none ∧ heldEligible s = false ∧
        forwardOrWait j s = .forward j t) ∨
      (∃ t, lowestFree s = some t ∧ (s.downRequest ≠ none ∨ heldEligible s = true) ∧
        forwardOrWait j s = .stall) ∨
      (lowestFree s = none ∧ forwardOrWait j s = holdOrFull j .tags s) := by
  unfold forwardOrWait
  cases h : lowestFree s with
  | none => simp
  | some t =>
    cases h' : s.downRequest <;> cases h'' : heldEligible s <;> simp

/-! ## The release scan (R81) -/

/-- A judgement applied leaves the request. -/
@[simp] theorem applied_req (j : Judgement) (e : HoldEntry) : (j.applied e).req = e.req := by
  cases j <;> rfl

/-- A scan keeps every entry's place and request. -/
theorem scan_reqs (s : State) (older rest : List HoldEntry) :
    (scan s older rest).entries.map HoldEntry.req = (older ++ rest).map HoldEntry.req := by
  induction rest generalizing older with
  | nil => simp [scan]
  | cons e rest ih => simp [scan, ih]

/-- A scan keeps the length of the queue. -/
theorem scan_length (s : State) (older rest : List HoldEntry) :
    (scan s older rest).entries.length = older.length + rest.length := by
  simpa using congrArg List.length (scan_reqs s older rest)

/-- The oldest refusal pending entry is refusal pending, and no older one is (R94). -/
theorem oldestRefused_some {q : List HoldEntry} {n : Nat} (h : oldestRefused q = some n) :
    ∃ e, q[n]? = some e ∧ e.refusal.isSome = true ∧ ∀ m < n, ∀ x, q[m]? = some x → x.refusal = none := by
  unfold oldestRefused at h
  obtain ⟨h1, h2, h3⟩ := List.findIdx?_eq_some_iff_getElem.mp h
  refine ⟨q[n], by simp [h1], h2, fun m hm x hx => ?_⟩
  have := h3 m hm
  obtain ⟨h4, h5⟩ := List.getElem?_eq_some_iff.mp hx
  subst h5
  simpa using this

/-! ## The responses of memory (R101) -/

/-- While a response is being relayed, no other is looked at (R17). -/
theorem offerResponse_relaying {m : MemResponse} {s : State} (h : relaying s = true) : offerResponse m s = s := by
  simp [offerResponse, waitingHead, h]

/-- Otherwise the response at the head is judged: the one that stands there, or else the one offered (R101). -/
theorem offerResponse_head {m : MemResponse} {s : State} (h : relaying s = false) :
    offerResponse m s = judgeResponse (s.downResponse.getD m) { s with downResponse := some (s.downResponse.getD m) } := by
  cases hd : s.downResponse <;> simp [offerResponse, waitingHead, present, h, hd]

/-! ## Completions (R155, R160) -/

/-- A quiesce completes exactly when QUIESCING is drained. -/
theorem completeQuiesce_cases (s : State) :
    ((s.mode = .quiescing ∧ s.hold = [] ∧ liveTotal s = 0) ∧
        completeQuiesce s = raise .quiesceDone (enter .quiesced { s with quiesceTimer := none })) ∨
      (¬(s.mode = .quiescing ∧ s.hold = [] ∧ liveTotal s = 0) ∧ completeQuiesce s = s) := by
  unfold completeQuiesce
  split
  · exact .inl ⟨‹_›, rfl⟩
  · exact .inr ⟨‹_›, rfl⟩

/-- A RESTART completes exactly when RESTARTING holds nothing. -/
theorem completeRestart_cases (s : State) :
    ((s.mode = .restarting ∧ s.hold = []) ∧
        completeRestart s = enter (.operating s.resume) (raise .restartDone (restartPeriods s))) ∨
      (¬(s.mode = .restarting ∧ s.hold = []) ∧ completeRestart s = s) := by
  unfold completeRestart
  split
  · exact .inl ⟨‹_›, rfl⟩
  · exact .inr ⟨‹_›, rfl⟩

/-! ## Management frames (R168) -/

/-- A frame that verifies, and whose class, direction, index and length are served, meets its owning rule. -/
theorem judgeFrame_served {d : Direction} {c : ObjectClass} {i n : Nat} {bs : List Byte} {s : State}
    (hc : classServes d c = true) (hi : indexServes c i = true) (hl : lengthServes d c n = true) :
    judgeFrame true d c i n bs s = ownerAnswer d c i bs s := by
  simp [judgeFrame, hc, hi, hl]

/-- A frame this governor receives is judged and concluded (R166, R167). -/
theorem takeFrame_received {d : Direction} {c : ObjectClass} {f : Frame} {s : State}
    (h : receives f.channel d s = true) :
    takeFrame d c f s = conclude (addressed f.channel s)
      (judgeFrame (frameVerifies d c f) d c f.index.toNat f.payload.length
        (f.payload.take Config.bufferCapacity) s) := by
  simp [takeFrame, h]

/-- A frame for another governor, and a broadcast read, leave the port idle and nothing else changed (R166). -/
theorem takeFrame_other {d : Direction} {c : ObjectClass} {f : Frame} {s : State}
    (h : receives f.channel d s = false) : takeFrame d c f s = { s with port := Port.idle } := by
  simp [takeFrame, h]

/-! ## The port, byte by byte (R165) -/

/-- Bytes that complete in IDLE are ignored. -/
theorem portBytes_idle {bs : List Byte} {s : State} (h : s.port.state = .idle) : portBytes bs s = s := by
  induction bs with
  | nil => rfl
  | cons b bs ih =>
    show portBytes bs (portByte b s) = s
    rw [show portByte b s = s by simp [portByte, h], ih]

end Sys2Proof.Machine
end

