-- ==== Sys2Proof/Laws/Terms.lean ====
section
/-! SUPPORT. The terms of the statements against the model's own tests: credit, concurrency, clash, room, slot; the
evaluation of a request; two states whose fields agree. -/

namespace Sys2Proof.Machine

/-- The credit test answers yes exactly when the lane has credit (R35). -/
theorem Lane.hasCredit_iff (l : Lane) : l.hasCredit = true ↔ l.Credit := by
  unfold Lane.hasCredit Lane.Credit
  cases l.live.kind <;> simp

/-- The concurrency test answers yes exactly when the lane has concurrency (R39, R43). -/
theorem Lane.hasConcurrency_iff (l : Lane) : l.hasConcurrency = true ↔ l.Concurrency := by
  unfold Lane.hasConcurrency Lane.Concurrency
  cases l.live.concurrency <;> simp

/-- A tag clashes exactly when a held or a LIVE entry carries it (R9). -/
theorem clashes_iff (u : UpTag) (s : State) : clashes u s = true ↔ s.Carries u := by
  unfold clashes State.Carries
  simp only [Bool.or_eq_true, List.any_eq_true, beq_iff_eq]
  apply or_congr Iff.rfl
  constructor
  · rintro ⟨x, hx, h⟩
    obtain ⟨i, hi, rfl⟩ := List.mem_iff_getElem.mp hx
    simp only [Vector.length_toList] at hi
    refine ⟨⟨i, hi⟩, ?_⟩
    simp only [Vector.getElem_toList, Fin.getElem_fin] at h ⊢
    cases hh : s.tags[i] <;> simp_all [TagEntry.isLiveWith, TagEntry.liveTag]
  · rintro ⟨t, h⟩
    refine ⟨s.tags[t], by simp, ?_⟩
    cases hh : s.tags[t] <;> simp_all [TagEntry.isLiveWith, TagEntry.liveTag]

/-- There is room to hold a request exactly when a slot and, for a WRITE, the beats are free (R95). -/
theorem hasRoom_iff (p : Passage) (s : State) :
    hasRoom p s = true ↔ s.hold.length < 48 ∧ (p.kind = .write → usedBeats s + p.length ≤ 256) := by
  unfold hasRoom
  simp only [Bool.and_eq_true, decide_eq_true_eq, Bool.or_eq_true, bne_iff_ne]
  unfold Config.holdCapacity Config.storeCapacity
  tauto

/-- A local slot is free exactly below sixteen entries (R15). -/
theorem slotFree_iff (s : State) : slotFree s = true ↔ s.localQueue.length < 16 := by
  simp only [slotFree, decide_eq_true_eq]
  rfl

/-- The evaluation of the record the checks are to judge, and its disposition (R6). -/
theorem exec_requestTaken {o r : Request} {s : State} (h : s.Evaluates o r) :
    exec (.requestTaken o) s = .next (dispose r (evaluate r s) { s with evalDue := false }) := by
  obtain ⟨hp, ⟨h1, rfl⟩ | ⟨h1, h2⟩⟩ := h
  · simp [exec, execRequestTaken, whileRunning, hp, evaluateHead, evaluationDue, h1, headRequest]
  · simp [exec, execRequestTaken, whileRunning, hp, evaluateHead, evaluationDue, h1, h2, headRequest]

/-- Two states whose fields agree are one state. -/
theorem State.ext_fields {a b : State}
    (h : a.phase = b.phase ∧ a.timebase = b.timebase ∧ a.offered = b.offered ∧ a.downRequest = b.downRequest ∧
      a.downResponse = b.downResponse ∧ a.upResponse = b.upResponse ∧ a.localQueue = b.localQueue ∧ a.turn =
      b.turn ∧ a.rules = b.rules ∧ a.lanes = b.lanes ∧ a.gens = b.gens ∧ a.hold = b.hold ∧ a.tags = b.tags ∧
      a.triggers = b.triggers ∧ a.log = b.log ∧ a.events = b.events ∧ a.faults = b.faults ∧ a.mode = b.mode ∧
      a.resume = b.resume ∧ a.quiesceTimer = b.quiesceTimer ∧ a.limits = b.limits ∧ a.straps = b.straps ∧
      a.resetCause = b.resetCause ∧ a.port = b.port ∧ a.scanDue = b.scanDue ∧ a.evalDue = b.evalDue ∧ a.pending =
      b.pending) : a = b := by
  cases a
  cases b
  simpa using h

end Sys2Proof.Machine
end

