-- ==== Sys2Proof/WellFormed.lean ====
section
/-! DEFINITION. Which commands are well formed: the operands the rules allow. The meanings are total and answer an
ill-formed command too. -/

namespace Sys2Proof

open Sys2Proof.Machine

/-- Every beat of the record belongs to it: none stands behind its marked last beat or its sixteenth (R3). -/
def Request.formed (r : Request) : Bool := decide (ownBeats r = r.beats)

/-- The payload has a length that a length byte can carry (R163). -/
def Frame.formed (f : Frame) : Bool := decide (f.payload.length ≤ 255)

/-- The frame is well formed and does not spell another row's operation. -/
def Frame.formedAs (listed : List Byte) (own : Byte) (f : Frame) : Bool := f.formed && !spellsOther listed own f

/-- The cut comes before the check byte has completed (R169). -/
def Cut.formed : Cut → Bool
  | .inFrame bits => beforeCheck (bytesOfBits bits)
  | .inReply _ => true


/-- A well-formed command. -/
def Instr.wellFormed : Instr → Bool
  | .requestTaken r => r.formed
  | .strayBeatDiscard _ => true
  | .releaseScan => true
  | .downstreamRequestTaken => true
  | .refusalPendingQueued => true
  | .holdAged _ => true
  | .holdExpiryForce _ => true
  | .holdExpiryRefuse _ => true
  | .responseDeadline _ => true
  | .responseTimeout _ => true
  | .responseRelay _ => true
  | .localResponseSent => true
  | .upstreamResponseTaken => true
  | .orphanReturn _ => true
  | .unknownResponse _ => true
  | .timebaseTick => true
  | .periodGeneratorExpiry _ => true
  | .quiesceForced => true
  | .powerOnReset => true
  | .pinReset => true
  | .resetEnd _ => true
  | .modeBypass f => f.formedAs modeCodes 0
  | .modeMonitor f => f.formedAs modeCodes 1
  | .modeGovern f => f.formedAs modeCodes 2
  | .quiesce f => f.formedAs modeCodes 3
  | .resume f => f.formedAs modeCodes 4
  | .restart f => f.formedAs modeCodes 5
  | .limitsWrite f => f.formed
  | .ruleWrite f => f.formed
  | .laneStagedWrite f => f.formed
  | .laneLiveWrite f => f.formed
  | .periodWrite f => f.formed
  | .commit f => f.formedAs twoCodes 1
  | .cancel f => f.formedAs twoCodes 2
  | .triggerWrite f => f.formed
  | .logRead f => f.formed
  | .clear f => f.formed
  | .masksWrite f => f.formed
  | .clearFault f => f.formedAs twoCodes 1
  | .clearCounters f => f.formedAs twoCodes 2
  | .unservedWrite _ f => f.formed
  | .frameCutShort c => c.formed
  | .badCheck d c f => f.formed && !frameVerifies d c f

end Sys2Proof
end

