-- ==== Sys2Proof/Tests/Slice0.lean ====
section
/-! SUPPORT. Tests: the ill-formed commands that `Instr.wellFormed` refuses, one step of each command against the
values of the spec's own examples, and for each statement a state and operands that meet its hypotheses. -/

namespace Sys2Proof.Tests

open Sys2Proof Sys2Proof.Machine

-- One theorem after another: elaborated side by side, as many threads wait for the kernel as there are theorems.
set_option Elab.async false

/-! ## Small states and operands -/

/-- The state a command leaves. -/
def run (c : Instr) (s : State) : State :=
  match exec c s with
  | .next t => t
  | .fault _ => s
  | .refused _ => s

/-- A READ as the requester side offers it. -/
def readOf (requester tag address length : Nat) : Request :=
  { requester := BitVec.ofNat 8 requester, tag := BitVec.ofNat 8 tag, kind := 0, address := BitVec.ofNat 40 address,
    length := BitVec.ofNat 5 length, beats := [] }

/-- A WRITE whose `n` beats carry zeros, the last one marked. -/
def writeOf (requester tag address length n : Nat) : Request :=
  { requester := BitVec.ofNat 8 requester, tag := BitVec.ofNat 8 tag, kind := 1, address := BitVec.ofNat 40 address,
    length := BitVec.ofNat 5 length, beats := List.replicate (n - 1) { data := 0, last := false } ++ [{ data := 0, last := true }] }

/-- A frame with the check byte that verifies. -/
def frame (d : Direction) (c : ObjectClass) (channel : Fin 8) (index : Byte) (payload : List Byte) : Frame :=
  { channel := channel, index := index, payload := payload,
    check := crc8 (coveredBytes d c { channel := channel, index := index, payload := payload, check := 0 }) }

/-- Such a frame verifies. -/
theorem frame_verifies (d : Direction) (c : ObjectClass) (channel : Fin 8) (index : Byte) (payload : List Byte) :
    (frame d c channel index payload).Verifies d c := rfl

/-- A write to the governor of `State.reset`, whose channel is 0. -/
abbrev write (c : ObjectClass) (index : Byte) (payload : List Byte) : Frame := frame .write c 0 index payload

/-- A well-formed READ, of one page, with the lane its classification gave. -/
def passage (requester tag length : Nat) (lane : Option LaneId) : Passage :=
  { requester := BitVec.ofNat 8 requester, tag := BitVec.ofNat 8 tag, kind := .read, address := 0, length := length,
    data := [], lane := lane, rule := none }

/-- A held entry at the start of a hold limit of 2,000 ticks. -/
def held (p : Passage) (c : Cause) : HoldEntry :=
  { req := p, cause := c, takenAt := 0, holdLimit := 2000, remaining := 2000, aged := false, forced := false,
    refusal := none, waited := 0 }

/-- A request in flight on a lane, with the response limit of reset. -/
def flight (requester tag : Nat) (lane : Option LaneId) : Flight :=
  { tag := BitVec.ofNat 8 tag, requester := BitVec.ofNat 8 requester, kind := .read, address := 0, length := 4,
    lane := lane, rule := none, forwardedAt := 0, remaining := some 10000, timeoutPending := false }

/-- A lane whose live and staged records are one METERED record, at the balance given. -/
def metered (budget : Nat) (policy : Policy) (balance : Int) : Lane :=
  let c : LaneConfig :=
    { kind := .metered, budget := budget, watermark := none, concurrency := none, policy := policy, gen := 0,
      summary := false }
  { Lane.reset with live := c, staged := c, balance := balance }

/-- Every request of any page, requester and kind goes to lane `l`. -/
def ruleTo (l : LaneId) : RuleEntry :=
  { enabled := true, pattern := Pattern.reset 268435455, action := .govern, lane := l, logRefusals := false }

/-- The state after reset, but in an operating mode. -/
def inMode (m : Mode) (s : State) : State := { s with mode := .operating m, resume := m }

/-- GOVERN, with every request governed on lane 3, which stands as given. -/
def governing (x : Lane) : State :=
  inMode .govern { State.reset with rules := State.reset.rules.set 0 (ruleTo 3), lanes := State.reset.lanes.set 3 x }

/-! ## WellFormed: one ill-formed command for each check -/

/-- A beat behind the marked last one belongs to no record (R3). -/
theorem test_wellFormed_beats :
    (Instr.requestTaken (writeOf 1 1 0 2 2)).wellFormed = true ∧
      (Instr.requestTaken { writeOf 1 1 0 2 2 with beats := [⟨0, true⟩, ⟨0, true⟩] }).wellFormed = false := by
  decide +kernel

/-- A payload of 256 bytes has no length byte (R163). -/
theorem test_wellFormed_payload :
    (Instr.ruleWrite (write .rule 0 (List.replicate 255 0))).wellFormed = true ∧
      (Instr.ruleWrite { write .rule 0 [] with payload := List.replicate 256 0 }).wellFormed = false := by
  decide +kernel

/-- A MODE write of request 01h is not MODE_BYPASS (R151). -/
theorem test_wellFormed_operation :
    (Instr.modeBypass (write .mode 0 [0])).wellFormed = true ∧
      (Instr.modeBypass (write .mode 0 [1])).wellFormed = false ∧
      (Instr.commit (write .commit 0 [2, 1])).wellFormed = false ∧
      (Instr.clearFault (write .fault 0 [2])).wellFormed = false := by
  decide +kernel

/-- Bits that complete the check byte cut nothing short (R169). -/
theorem test_wellFormed_cut :
    (Instr.frameCutShort (.inFrame (List.replicate 31 false))).wellFormed = true ∧
      (Instr.frameCutShort (.inFrame (List.replicate 32 false))).wellFormed = false := by
  decide +kernel

/-- A frame whose check verifies is no BAD_CHECK (R168). -/
theorem test_wellFormed_badCheck :
    (Instr.badCheck .write .rule { write .rule 0 [1] with check := 0 }).wellFormed = true ∧
      (Instr.badCheck .write .rule (write .rule 0 [1])).wellFormed = false := by
  decide +kernel

/-! ## Formats -/

/-- The published check value of this CRC-8: F4h for the nine ASCII digits (R164 names the polynomial). -/
theorem test_crc8_digits : crc8 [0x31, 0x32, 0x33, 0x34, 0x35, 0x36, 0x37, 0x38, 0x39] = 0xF4 := by
  decide +kernel

/-- A write of RULE to channel 2 begins with 53h (section 11.2). -/
theorem test_headerByte_rule : headerByte 2 .write .rule = 0x53 := by decide

/-! ## The memory path -/

/-- Example 3.10: lane 6 with a watermark of 32 and a concurrency limit of 2, policy MARK, bound to PG1. -/
def lane310 (balance : Int) (consumed live : Nat) : Lane :=
  let c : LaneConfig :=
    { kind := .metered, budget := 40, watermark := some 32, concurrency := some 2, policy := .mark, gen := 1,
      summary := true }
  { Lane.reset with live := c, staged := c, balance := balance, consumed := consumed, liveCount := live }

/-- Example 3.10, B taken: balance 8, consumed 32, live 2, WATERMARK with lane 3 in place of the example's lane 6. -/
theorem test_requestTaken_charges :
    let t := run (.requestTaken (readOf 2 2 0 16)) (governing (lane310 24 16 1))
    t.lanes[3].balance = 8 ∧ t.lanes[3].consumed = 32 ∧ t.lanes[3].liveCount = 2 ∧ t.events.watermarkLanes = 8 := by
  decide +kernel

/-- A READ of length 0 is malformed: REFUSED_PROTOCOL, and the lane and the channel are not touched (R5, R8). -/
theorem test_requestTaken_malformed :
    let t := run (.requestTaken (readOf 2 9 0 0)) State.reset
    t.localQueue = [{ tag := 9, status := .refusedProtocol }] ∧ t.faults.counts[0] = 1 ∧ t.downRequest = none := by
  decide +kernel

/-- A stray beat is discarded without a trace (R3). -/
theorem test_strayBeatDiscard : exec (.strayBeatDiscard ⟨5, true⟩) State.reset = .next State.reset := rfl

/-- Example 3.10, B answered: D leaves as a mark, balance −4, consumed 44, overrun 4, live 2, and E stays. -/
theorem test_releaseScan_mark :
    let t := run .releaseScan { governing (lane310 0 40 1) with
      hold := [held (passage 4 4 4 (some 3)) .concurrency, held (passage 5 5 16 (some 3)) .concurrency]
      scanDue := true }
    t.lanes[3].balance = -4 ∧ t.lanes[3].consumed = 44 ∧ t.lanes[3].overrun = 4 ∧ t.lanes[3].liveCount = 2 ∧
      t.hold.map (fun e => e.req.tag) = [5] := by
  decide +kernel

/-- The record on offer downstream, for a READ with tag 0. -/
def offered : DownRequest := { requester := 1, tag := 0, kind := .read, address := 0, length := 4, data := [] }

/-- The channel is free and a scan comes when something is held (R1, R82). -/
theorem test_downstreamRequestTaken :
    let t := run .downstreamRequestTaken { State.reset with
      downRequest := some offered, hold := [held (passage 1 1 4 none) .tags] }
    t.downRequest = none ∧ t.scanDue = true := by
  decide +kernel

/-- Example 9.7, C leaves: WITHDRAWN is queued for tag 20 and the quiesce completes. -/
theorem test_refusalPendingQueued_completes :
    let t := run .refusalPendingQueued { State.reset with
      mode := .quiescing, hold := [{ held (passage 7 20 8 none) .budget with refusal := some .withdrawn }] }
    t.localQueue = [{ tag := 20, status := .withdrawn }] ∧ t.mode = .quiesced ∧
      (t.events.flags[Flag.quiesceDone.code]).set = true := by
  decide +kernel

/-- Example 5.9's two READs of requester 5 at the countdown given for tag 2, whose limit is 500. -/
def held59 (remaining : Nat) : List HoldEntry :=
  [held (passage 5 1 4 (some 1)) .budget,
    { held (passage 5 2 2 (some 1)) .budget with holdLimit := 500, remaining := remaining }]

/-- Example 5.9 at tick 350: tag 2 is aged at 250 of 500. -/
theorem test_holdAged :
    let t := run (.holdAged 1) { State.reset with hold := held59 250 }
    t.hold.map HoldEntry.aged = [false, true] ∧ (t.events.flags[Flag.holdAged.code]).raises = 1 := by
  decide +kernel

/-- Example 5.9 at tick 600: tag 2 and the older tag 1 are forced, with one HOLD_EXPIRED fault. -/
theorem test_holdExpiryForce :
    let t := run (.holdExpiryForce 1) { State.reset with hold := held59 0 }
    t.hold.map HoldEntry.forced = [true, true] ∧ t.hold.map HoldEntry.remaining = [0, 0] ∧
      t.faults.counts[4] = 1 ∧ t.log.records.length = 1 := by
  decide +kernel

/-- The settings with expiry action REFUSE. -/
def refusing : State := { State.reset with limits := { Limits.reset with expiryAction := .refuse } }

/-- Under REFUSE the expired entry alone becomes refusal pending, with EXPIRED, and no record is written yet (R92). -/
theorem test_holdExpiryRefuse :
    let t := run (.holdExpiryRefuse 1) { refusing with hold := held59 0 }
    t.hold.map HoldEntry.refusal = [none, some .expired] ∧ t.faults.counts[4] = 1 ∧ t.log.records = [] := by
  decide +kernel

/-- The In-Flight Table with one entry. -/
def withTag (t : DownTag) (e : TagEntry) (s : State) : State := { s with tags := s.tags.set t e }

/-- A countdown at 0 makes the entry timeout pending and keeps it LIVE (R107). -/
theorem test_responseDeadline :
    (run (.responseDeadline 4) (withTag 4 (.live { flight 1 7 none with remaining := some 0 }) State.reset)).tags[4] =
      .live { flight 1 7 none with remaining := some 0, timeoutPending := true } := by
  decide +kernel

/-- A timeout answers TIMED_OUT and orphans the tag (R108). -/
theorem test_responseTimeout :
    let t := run (.responseTimeout 4)
      (withTag 4 (.live { flight 1 7 none with remaining := some 0, timeoutPending := true }) State.reset)
    t.localQueue = [{ tag := 7, status := .timedOut }] ∧ orphanCount t = 1 ∧ t.faults.counts[3] = 1 := by
  decide +kernel

/-- Example 1.8: two local responses and two memory responses wait, the turn names MEMORY. -/
def merger : State :=
  withTag 5 (.live (flight 2 90 none)) (withTag 3 (.live (flight 1 7 none)) { State.reset with
    localQueue := [{ tag := 12, status := .refusedRate }, { tag := 40, status := .timedOut }] })

/-- Example 1.8, the first grant: tag 3 is relayed as tag 7, the entry is FREE, the turn is LOCAL. -/
theorem test_responseRelay :
    let t := run (.responseRelay { tag := 3, answer := .okay [0, 0, 0, 0] }) merger
    t.upResponse = some { tag := 7, status := .okay, data := [0, 0, 0, 0], source := .memorySide } ∧
      t.tags[3].isFree = true ∧ t.turn = .localSide := by
  decide +kernel

/-- Example 1.8, the second grant: with the turn LOCAL and tag 5 waiting, tag 12 is sent and the turn is MEMORY. -/
theorem test_localResponseSent :
    let t := run .localResponseSent { merger with
      turn := .localSide, downResponse := some { tag := 5, answer := .okay [] } }
    t.upResponse = some { tag := 12, status := .refusedRate, data := [], source := .localSide } ∧
      t.localQueue = [{ tag := 40, status := .timedOut }] ∧ t.turn = .memorySide := by
  decide +kernel

/-- The last beat of a relayed response frees both channels (R17). -/
theorem test_upstreamResponseTaken :
    let t := run .upstreamResponseTaken { State.reset with
      downResponse := some { tag := 3, answer := .okay [] }
      upResponse := some { tag := 7, status := .okay, data := [], source := .memorySide } }
    t.upResponse = none ∧ t.downResponse = none := by
  decide +kernel

/-- A late response frees its tag and writes an ORPHAN record (R103). -/
theorem test_orphanReturn :
    let t := run (.orphanReturn { tag := 4, answer := .memoryError })
      (withTag 4 (.orphaned { flight 1 7 none with remaining := none }) State.reset)
    t.tags[4].isFree = true ∧ t.log.records.length = 1 ∧ t.upResponse = none ∧
      (t.events.flags[Flag.orphanReturn.code]).set = true := by
  decide +kernel

/-- R101 judges by the tag alone: with tag 4 FREE, RESPONSE_RELAY and ORPHAN_RETURN count UNKNOWN_RESPONSE and leave
nothing at the head. -/
theorem test_responseRelay_freeTag :
    let t := run (.orphanReturn { tag := 4, answer := .okay [] }) (run (.responseRelay { tag := 4, answer := .okay [] }) State.reset)
    t.faults.counts[2] = 2 ∧ t.downResponse = none := by
  decide +kernel

/-- Example 8.7: a response for downstream tag 4, FREE, counts UNKNOWN_RESPONSE and raises FAULT. -/
theorem test_unknownResponse :
    let t := run (.unknownResponse { tag := 4, answer := .okay [] }) State.reset
    t.faults.counts[2] = 1 ∧ (t.events.flags[Flag.fault.code]).raises = 1 ∧ t.downResponse = none := by
  decide +kernel

/-! ## Time and resets -/

/-- The Timebase wraps to 0 after 4,294,967,295 (R59). -/
theorem test_timebaseTick_wraps :
    let t := run .timebaseTick { State.reset with timebase := 4294967295 }
    t.timebase = 0 ∧ t.gens[2].remaining = 999 := by
  decide +kernel

/-- Example 4.7: PG1 expires with a commit; lane 2 has a balance of −6, consumed 206, a staged budget of 300. -/
theorem test_periodGeneratorExpiry :
    let x := metered 200 .hold (-6)
    let t := run (.periodGeneratorExpiry 1) { State.reset with
      lanes := State.reset.lanes.set 2 { x with
        live := { x.live with gen := 1 }, staged := { x.live with gen := 1, budget := 300 }, consumed := 206 }
      gens := State.reset.gens.set 1
        { livePeriod := 500, stagedPeriod := 800, remaining := 1, expiries := 41, commitPending := true, expiring := true } }
    t.lanes[2].balance = 294 ∧ t.lanes[2].lastConsumed = 206 ∧ t.gens[1].remaining = 800 ∧ t.gens[1].expiries = 42 ∧
      t.events.commitGens = 2 := by
  decide +kernel

/-- Example 9.7 at tick 500: A, B and C become refusal pending with WITHDRAWN, QUIESCE_FORCED is counted. -/
theorem test_quiesceForced :
    let t := run .quiesceForced { State.reset with
      mode := .quiescing, quiesceTimer := some 0
      hold := [held (passage 4 10 4 (some 3)) .budget, held (passage 4 11 4 (some 3)) .order] }
    t.hold.map HoldEntry.refusal = [some .withdrawn, some .withdrawn] ∧ t.faults.counts[6] = 1 ∧
      t.mode = .quiescing ∧ t.quiesceTimer = none := by
  decide +kernel

/-- A state after a tag clash has been counted (example 8.7). -/
def clashed : State := countFault .tagClash { FaultDetails.none with tag := some 33 } State.reset

/-- A power-on reset empties the Fault Record and clears the counters (R142, R143). -/
theorem test_powerOnReset :
    let t := run .powerOnReset clashed
    t.faults.record = none ∧ t.faults.counts[1] = 0 := by
  decide +kernel

/-- Example 8.7, pin reset: the record and the counter stay, the FAULT flag is clear with count 0. -/
theorem test_pinReset :
    let t := run .pinReset clashed
    t.faults = clashed.faults ∧ (t.events.flags[Flag.fault.code]).set = false ∧
      (t.events.flags[Flag.fault.code]).raises = 0 := by
  decide +kernel

/-- START 10 starts in GOVERN, and the cause of a pin reset is recorded (R148, R149). -/
theorem test_resetEnd :
    let t := run (.resetEnd { channel := 2, start := 2, unmatched := true }) (run .pinReset State.reset)
    t.mode = .operating .govern ∧ t.resetCause = .pin ∧ t.straps.channel = 2 ∧ t.phase = .running := by
  decide +kernel

/-! ## Management frames -/

/-- What the port will shift out for a status alone. -/
def reply (st : MgmtStatus) : List Byte := [st.code, crc8 [st.code]]

/-- BYPASS from GOVERN (R152). -/
theorem test_modeBypass :
    let t := run (.modeBypass (write .mode 0 [0])) (inMode .govern State.reset)
    t.mode = .operating .bypass ∧ t.resume = .bypass ∧ t.port.reply = reply .ok := by
  decide +kernel

/-- MONITOR from BYPASS (R152). -/
theorem test_modeMonitor :
    (run (.modeMonitor (write .mode 0 [1])) State.reset).mode = .operating .monitor := by decide +kernel

/-- Example 9.8: GOVERN in RESTARTING answers BUSY. -/
theorem test_modeGovern_busy :
    (run (.modeGovern (write .mode 0 [2])) { State.reset with
      mode := .restarting, hold := [held (passage 9 50 4 none) .order] }).port.reply = reply .busy := by
  decide +kernel

/-- A QUIESCE with nothing held or LIVE completes in its own event (R154, R155). -/
theorem test_quiesce_completes :
    let t := run (.quiesce (write .mode 0 [3])) (inMode .govern State.reset)
    t.mode = .quiesced ∧ t.resume = .govern ∧ t.quiesceTimer = none := by
  decide +kernel

/-- RESUME from QUIESCED returns to the resume mode (R158). -/
theorem test_resume :
    (run (.resume (write .mode 0 [4])) { State.reset with mode := .quiesced, resume := .monitor }).mode =
      .operating .monitor := by
  decide +kernel

/-- Example 9.8's lane 5, with nothing held: balance 100, consumed 0, last period consumed 0, live count 2. -/
theorem test_restart_completes :
    let x := { metered 100 .hold (-8) with consumed := 108, lastConsumed := 95, liveCount := 2 }
    let t := run (.restart (write .mode 0 [5])) (inMode .govern { State.reset with lanes := State.reset.lanes.set 5 x })
    t.lanes[5].balance = 100 ∧ t.lanes[5].consumed = 0 ∧ t.lanes[5].lastConsumed = 0 ∧ t.lanes[5].liveCount = 2 ∧
      t.mode = .operating .govern := by
  decide +kernel

/-- A LIMITS payload: hold limit 500, REFUSE, response limit OFF, quiesce limit 500, REFUSE, WRAP, 64, on, 127. -/
def limitsBytes : List Byte := [0x01, 0xF4, 1, 1, 0, 0, 0x01, 0xF4, 1, 1, 64, 1, 127]

/-- A LIMITS write replaces all nine settings (R174, section 11.3). -/
theorem test_limitsWrite :
    (run (.limitsWrite (write .limits 0 limitsBytes)) State.reset).limits =
      { holdLimit := 500, expiryAction := .refuse, responseLimit := none, quiesceLimit := 500, fullAction := .refuse,
        logPolicy := .wrap, logThreshold := 64, logRefusals := true, orphanAlarm := 127 } := by
  decide +kernel

/-- Example 2.8's entry 4: pages 80000h to 80FFFh, any requester, WRITE, REFUSE, log refusals. -/
def ruleBytes : List Byte := [0x03, 0, 0x08, 0, 0, 0, 0x08, 0x0F, 0xFF, 0, 0, 0x02, 0x02, 0]

/-- Example 2.8's entry 4 screens requester 3's WRITE at 80000400h (R21, R24, R29). -/
theorem test_ruleWrite_screens :
    let t := run (.ruleWrite (write .rule 4 ruleBytes)) (inMode .govern State.reset)
    t.rules[4].enabled = true ∧
      (run (.requestTaken (writeOf 3 1 0x80000400 1 1)) t).localQueue = [{ tag := 1, status := .refusedScreen }] := by
  decide +kernel

/-- Example 10.8: a base page above the limit page is BAD_VALUE, and the entry keeps its fields. -/
theorem test_ruleWrite_badValue :
    let t := run (.ruleWrite (write .rule 5 [1, 0, 0, 0, 2, 0, 0, 0, 1, 0, 0, 7, 0, 0])) State.reset
    t.rules = State.reset.rules ∧ t.port.reply = reply .badValue := by
  decide +kernel

/-- A LANE_STAGED payload: METERED, budget 300, watermark OFF, UNLIMITED, HOLD, PG1, no summary. -/
def laneBytes : List Byte := [0, 0, 0x01, 0x2C, 0, 0, 0, 0, 0, 1, 0]

/-- Example 4.7: the staged budget is 300, the live record stays (R66). -/
theorem test_laneStagedWrite :
    let t := run (.laneStagedWrite (write .laneStaged 2 laneBytes)) State.reset
    t.lanes[2].staged.budget = 300 ∧ t.lanes[2].staged.gen = 1 ∧ t.lanes[2].live = LaneConfig.reset := by
  decide +kernel

/-- A LANE_LIVE write clears the statistics and leaves the period state (R57). -/
theorem test_laneLiveWrite :
    let t := run (.laneLiveWrite (write .laneLive 5 [])) { State.reset with
      lanes := State.reset.lanes.set 5 { Lane.reset with consumed := 9, lastConsumed := 95, totalHolds := 3 } }
    t.lanes[5].consumed = 9 ∧ t.lanes[5].lastConsumed = 0 ∧ t.lanes[5].totalHolds = 0 := by
  decide +kernel

/-- Example 4.7: PERIOD[1] staged 800, live as it was (R67). -/
theorem test_periodWrite :
    let t := run (.periodWrite (write .period 1 [0, 0x03, 0x20])) State.reset
    t.gens[1].stagedPeriod = 800 ∧ t.gens[1].livePeriod = 1000 := by
  decide +kernel

/-- Example 10.9: a broadcast COMMIT naming PG1 is executed and not answered. -/
theorem test_commit_broadcast :
    let t := run (.commit (frame .write .commit 7 0 [1, 0x02])) State.reset
    t.gens[1].commitPending = true ∧ t.gens[0].commitPending = false ∧ t.port = Port.idle := by
  decide +kernel

/-- Example 4.8: a CANCEL that comes too late answers NOT_PENDING. -/
theorem test_cancel_notPending :
    (run (.cancel (write .commit 0 [2, 0x01])) State.reset).port.reply = reply .notPending := by decide +kernel

/-- Example 7.6's T0: enabled and so armed, ONCE, pages 400h to 4FFh (R117). -/
theorem test_triggerWrite :
    let t := run (.triggerWrite (write .trigger 0 [1, 0, 0, 0, 0, 4, 0, 0, 0, 4, 0xFF, 0, 0, 7])) State.reset
    t.triggers[0].armed = true ∧ t.triggers[0].pattern.base = 0x400 ∧
      (run (.requestTaken (readOf 20 1 0x480000 1)) t).triggers[0].armed = false := by
  decide +kernel

/-- A Capture Log of `n` records numbered from `first`. -/
def logOf (first n : Nat) : CaptureLog :=
  { records := (List.range n).map (fun i =>
      { seq := BitVec.ofNat 16 (first + i), timestamp := 0, body := .periodSummary 0 0 0 0 0 })
    next := BitVec.ofNat 16 (first + n), lost := 0 }

/-- Example 10.10: LOG[2] removes 500 and 501; the reply is OK, 2 returned, 8 left, lost 0, and record 500 first. -/
theorem test_logRead :
    let t := run (.logRead (frame .read .log 0 2 [])) { State.reset with log := logOf 500 10 }
    t.log = { logOf 502 8 with next := 510 } ∧ t.port.reply.take 7 = [0, 2, 8, 0, 0, 0x01, 0xF4] := by
  decide +kernel

/-- Example 8.6: WATERMARK has count 19 with lanes 2 and 6, COMMIT_DONE count 4 with PG1. -/
def events86 : State :=
  { State.reset with events :=
    { flags := (State.reset.events.flags.set 0 { set := true, raises := 19, enabled := true }).set 9
        { set := true, raises := 4, enabled := true }
      watermarkLanes := 0x44, exhaustedLanes := 0, commitGens := 2 } }

/-- Example 8.6, the first CLEAR: COMMIT_DONE is cleared, WATERMARK stays and is listed, NOT_CLEARED. -/
theorem test_clear_notCleared :
    let t := run (.clear (write .events 0 [0, 18, 9, 4])) events86
    (t.events.flags[0]).set = true ∧ t.events.watermarkLanes = 0x44 ∧ (t.events.flags[9]).set = false ∧
      t.events.commitGens = 0 ∧ alert t = true ∧ t.port.reply.headD 0 = 7 := by
  decide +kernel

/-- Example 8.6, the second CLEAR: OK, ALERT deasserted. -/
theorem test_clear_ok :
    let t := run (.clear (write .events 0 [0, 19, 9, 4])) events86
    t.events.watermarkLanes = 0 ∧ alert t = false ∧ t.port.reply.headD 1 = 0 := by
  decide +kernel

/-- Masking every flag deasserts ALERT and leaves the flags set (R136, R137). -/
theorem test_masksWrite :
    let t := run (.masksWrite (write .masks 0 (List.replicate 13 0))) events86
    alert t = false ∧ (t.events.flags[0]).set = true := by
  decide +kernel

/-- Example 8.7: CLEAR_FAULT empties the record and leaves the counters. -/
theorem test_clearFault :
    let t := run (.clearFault (write .fault 0 [1])) clashed
    t.faults.record = none ∧ t.faults.counts[1] = 1 := by
  decide +kernel

/-- CLEAR_COUNTERS leaves the record (R142). -/
theorem test_clearCounters :
    let t := run (.clearCounters (write .fault 0 [2])) clashed
    t.faults.record = clashed.faults.record ∧ t.faults.counts[1] = 0 := by
  decide +kernel

/-- A write of HOLD is answered BAD_CLASS (R170). -/
theorem test_unservedWrite :
    (run (.unservedWrite .hold (write .hold 0 [])) State.reset).port.reply = reply .badClass := by decide +kernel

/-- Example 10.10: chip-select rises in the reply, and what the read removed stays removed (R169). -/
theorem test_frameCutShort :
    let t := run (.frameCutShort (.inReply 32))
      (run (.logRead (frame .read .log 0 2 [])) { State.reset with log := logOf 500 10 })
    t.port = Port.idle ∧ t.log.records.length = 8 := by
  decide +kernel

/-- A read of IDENTITY after reset: device number, revision, channel, start and unmatched straps, cause (section 11.3). -/
theorem test_read_identity : readContents .identity 0 State.reset = [0x0B, 0x57, 0x1C, 0x2A, 1, 0, 0, 0] := by
  decide +kernel

/-- A frame whose chip-select falls while a reset lasts is ignored to its end (R165). -/
theorem test_portFall_inReset :
    let t := portBytes (frameBytes .write .commit (write .commit 0 [1, 2])) (portFall (run .pinReset State.reset))
    t.port = Port.idle ∧ t.gens[1].commitPending = false := by
  decide +kernel

/-- NOT_PENDING, code 08h, is shifted out most significant bit first (R162). -/
theorem test_portShifts :
    portShifts (run (.cancel (write .commit 0 [2, 1])) State.reset) =
      some [false, false, false, false, true, false, false, false] := by
  decide +kernel

/-- Example 10.9, governor 3: the check fails, nothing is executed, FRAME_CHECK is counted, no reply. -/
theorem test_badCheck :
    let t := run (.badCheck .write .commit { frame .write .commit 7 0 [1, 0x02] with payload := [1, 0x06] }) State.reset
    t.gens[1].commitPending = false ∧ t.faults.counts[7] = 1 ∧ t.port = Port.idle := by
  decide +kernel

/-! ## Witnesses: the hypotheses of each statement, met

Each theorem `witness_<statement>` names a concrete state and operands that meet the hypotheses of
`Obligations.<statement>`, clause by clause where its clauses differ. -/

/-- Clause 1 with a command in front, clause 2 with an empty queue. -/
theorem witness_StepRunsFrontCommand :
    ({ State.reset with pending := [.releaseScan, .timebaseTick] }).pending = .releaseScan :: [.timebaseTick] ∧
      State.reset.pending = [] := ⟨rfl, rfl⟩

/-- A busy state: GOVERN, everything governed on lane 3, which is short of credit; one READ held, one in flight; the
scan is due and a tick waits. -/
def busy : State :=
  withTag 0 (.live (flight 8 80 (some 3))) { governing { metered 40 .mark (-4) with liveCount := 1 } with
    hold := [held (passage 5 50 4 (some 3)) .order], scanDue := true, pending := [.releaseScan, .timebaseTick] }

/-- The busy state with the lane's exhaustion still to be noted: what a step answers. -/
theorem busy_steps : ∃ t, step busy = .next t := ⟨_, rfl⟩

theorem witness_CapacitiesKept : (busy.Bounded ∧ busy.Counted) ∧ ∃ t, step busy = .next t :=
  ⟨by decide +kernel, busy_steps⟩

theorem witness_LaneBalancesKept : busy.Solvent ∧ ∃ t, step busy = .next t := ⟨by decide +kernel, busy_steps⟩

theorem witness_UpstreamTagsStayUnique : busy.TagsUnique ∧ ∃ t, step busy = .next t :=
  ⟨by decide +kernel, busy_steps⟩

theorem witness_LiveCountsStayExact : busy.LiveCounted ∧ ∃ t, step busy = .next t := ⟨by decide +kernel, busy_steps⟩

theorem witness_EntriesStaySound : busy.EntriesSound ∧ ∃ t, step busy = .next t := by
  refine ⟨⟨by decide +kernel, by decide +kernel, fun t => ?_⟩, busy_steps⟩
  show TagEntry.Sound ((State.reset.tags.set 0 (.live (flight 8 80 (some 3))))[t])
  by_cases h : (0 : Nat) = t.val
  · simp [h, TagEntry.Sound, flight]
  · simp [h, TagEntry.Sound, State.reset]

theorem witness_PeriodsAndTablesKept : (busy.PeriodsSound ∧ busy.TablesLegal) ∧ ∃ t, step busy = .next t :=
  ⟨by decide +kernel, busy_steps⟩

theorem witness_EventSetsAgreeWithFlags :
    (busy.events.SetsAgree ∧ ∃ t, step busy = .next t) ∧ events86.events.SetsAgree := by
  refine ⟨⟨by decide +kernel, busy_steps⟩, by decide +kernel⟩

/-- Each of the four cases of `State.ModeSound`, and a reset under way. -/
theorem witness_ModeControllerStaysConsistent :
    (busy.ModeSound ∧ ∃ t, step busy = .next t) ∧
      ({ busy with mode := .quiescing, quiesceTimer := some 0 }).ModeSound ∧
      ({ State.reset with mode := .quiesced }).ModeSound ∧
      ({ State.reset with
        mode := .restarting, hold := [{ held (passage 9 50 4 none) .order with refusal := some .withdrawn }] }).ModeSound ∧
      (run .pinReset busy).phase = .inReset .pin ∧ (run .pinReset busy).ModeSound := by
  refine ⟨⟨⟨.inl rfl, rfl, rfl⟩, busy_steps⟩, ?_, ?_, ?_, rfl, .inr ⟨rfl, rfl⟩, rfl, rfl⟩
  · exact ⟨.inl rfl, .inl (by decide)⟩
  · exact ⟨.inl rfl, rfl, by decide +kernel, rfl⟩
  · exact ⟨.inl rfl, by decide, by decide, rfl⟩

/-- With a fault held, another is counted. -/
theorem witness_FaultRecordPersists :
    clashed.faults.record = some { kind := .tagClash, timestamp := 0, details := { FaultDetails.none with tag := some 33 } } ∧
      (∃ t, exec (.unknownResponse { tag := 4, answer := .okay [] }) clashed = .next t) ∧
      (∀ f, Instr.unknownResponse { tag := 4, answer := .okay [] } ≠ .clearFault f) ∧
      Instr.unknownResponse { tag := 4, answer := .okay [] } ≠ .powerOnReset :=
  ⟨by decide +kernel, ⟨_, rfl⟩, by simp, by simp⟩

/-- A record put on offer by an arrival, and one put on offer by a scan behind a refusal pending entry of its
requester. -/
theorem witness_RequesterOrderKept :
    (∃ t d, step { State.reset with pending := [.requestTaken (readOf 1 1 0 1)] } = .next t ∧
      t.downRequest = some d) ∧
    ∃ t d, step { State.reset with
        hold := [{ held (passage 5 1 4 none) .budget with refusal := some .rate }, held (passage 5 2 4 none) .order]
        scanDue := true, pending := [.releaseScan] } = .next t ∧ t.downRequest = some d := by
  refine ⟨⟨_, { requester := 1, tag := 0, kind := .read, address := 0, length := 1, data := [] }, rfl, ?_⟩,
    ⟨_, { requester := 5, tag := 0, kind := .read, address := 0, length := 4, data := [] }, rfl, ?_⟩⟩ <;>
  decide +kernel

/-- PG0 is about to expire with a commit that changes lane 0's budget and its own period. -/
def expiringCommit : State :=
  { State.reset with
    lanes := State.reset.lanes.set 0 { Lane.reset with staged := (metered 300 .hold 300).live }
    gens := State.reset.gens.set 0 { Generator.reset with
      stagedPeriod := 800, remaining := 1, commitPending := true, expiring := true } }

/-- A command of each kind that changes what its clause names. -/
theorem witness_ConfigurationHasOneWriter :
    (run .timebaseTick State.reset).timebase ≠ State.reset.timebase ∧
      (run (.ruleWrite (write .rule 31 ruleBytes)) State.reset).rules ≠ State.reset.rules ∧
      (run (.limitsWrite (write .limits 0 limitsBytes)) State.reset).limits ≠ State.reset.limits ∧
      (run (.laneStagedWrite (write .laneStaged 15 laneBytes)) State.reset).lanes[15].staged ≠ LaneConfig.reset ∧
      (run (.periodGeneratorExpiry 0) expiringCommit).lanes[0].live ≠ expiringCommit.lanes[0].live ∧
      (run (.periodGeneratorExpiry 0) expiringCommit).gens[0].livePeriod ≠ 1000 ∧
      (run (.periodWrite (write .period 3 [0, 0x03, 0x20])) State.reset).gens[3].stagedPeriod ≠ 1000 ∧
      ((run (.masksWrite (write .masks 0 (List.replicate 13 1))) State.reset).events.flags[12]).enabled ≠ false ∧
      (run (.triggerWrite (write .trigger 7 [1, 0, 0, 0, 0, 4, 0, 0, 0, 4, 0xFF, 0, 0, 7])) State.reset).triggers[7].enabled ≠
        false ∧
      (run (.resetEnd { channel := 2, start := 0, unmatched := false }) (run .pinReset State.reset)).straps ≠
        State.reset.straps := by
  decide +kernel

/-- A well-formed READ and a well-formed WRITE at the greatest length, at the end of a page. -/
theorem witness_MalformedExactly :
    (wellFormedRequest (readOf 1 1 0xE00 16)).isSome = true ∧
      (wellFormedRequest (writeOf 1 1 0xE00 16 16)).isSome = true := by
  decide +kernel

/-- Everything is governed on lane 3 by the rule of highest index. -/
def lastRule : State := { State.reset with rules := State.reset.rules.set 31 (ruleTo 3) }

/-- BYPASS is met by `rfl`; an unmatched request; a match at the highest index; a match at the lowest. -/
theorem witness_ClassificationOutcome :
    Mode.govern ≠ .bypass ∧ (∀ n : RuleId, State.reset.rules[n].admits (passage 1 1 4 none) = false) ∧
      (lastRule.rules[(31 : RuleId)].admits (passage 1 1 4 none) = true ∧
        ∀ k : RuleId, k < 31 → lastRule.rules[k].admits (passage 1 1 4 none) = false) ∧
      (busy.rules[(0 : RuleId)].admits (passage 1 1 4 none) = true ∧
        ∀ k : RuleId, k < 0 → busy.rules[k].admits (passage 1 1 4 none) = false) := by
  decide +kernel

/-- A classification on lane 3. -/
def onLane3 : Classified := { lane := some 3, rule := some 0, screened := false, entryLogs := false }

/-- Lane 3 in a state, as the lane tests see it: credit, concurrency, policy. -/
theorem lane3_of {s : State} {credit concurrency : Bool} {p : Policy}
    (h : s.lanes[(3 : LaneId)].hasCredit = credit ∧ s.lanes[(3 : LaneId)].hasConcurrency = concurrency ∧
      s.lanes[(3 : LaneId)].live.policy = p) :
    (s.lanes[(3 : LaneId)].Credit ↔ credit = true) ∧ (s.lanes[(3 : LaneId)].Concurrency ↔ concurrency = true) ∧
      s.lanes[(3 : LaneId)].live.policy = p := by
  rw [← Lane.hasCredit_iff, ← Lane.hasConcurrency_iff, h.1, h.2.1]
  exact ⟨Iff.rfl, Iff.rfl, h.2.2⟩

/-- Lane 3 of the governing state in which it stands as given. -/
abbrev lane3 (x : Lane) : Lane := (governing x).lanes[(3 : LaneId)]

/-- Lane 3 at the least credit and at none, below its concurrency limit and at it, under each policy. -/
theorem witness_LaneTestAtTaking :
    Mode.monitor ≠ .govern ∧ ({ onLane3 with screened := true }).screened = true ∧
      ({ onLane3 with lane := none }).lane = none ∧ onLane3.screened = false ∧ onLane3.lane = some 3 ∧
      ((lane3 (lane310 1 0 1)).Credit ∧ (lane3 (lane310 1 0 1)).Concurrency) ∧
      ((lane3 (lane310 1 0 2)).Credit ∧ ¬ (lane3 (lane310 1 0 2)).Concurrency) ∧
      (¬ (lane3 (metered 40 .hold 0)).Credit ∧ (lane3 (metered 40 .hold 0)).live.policy = .hold) ∧
      (¬ (lane3 (metered 40 .refuse 0)).Credit ∧ (lane3 (metered 40 .refuse 0)).live.policy = .refuse) ∧
      (¬ (lane3 (lane310 0 40 1)).Credit ∧ (lane3 (lane310 0 40 1)).live.policy = .mark ∧ (lane3 (lane310 0 40 1)).Concurrency) ∧
      (¬ (lane3 (lane310 0 40 2)).Credit ∧ (lane3 (lane310 0 40 2)).live.policy = .mark ∧ ¬ (lane3 (lane310 0 40 2)).Concurrency) := by
  have a := lane3_of (s := governing (lane310 1 0 1)) (credit := true) (concurrency := true) (p := .mark) (by decide +kernel)
  have b := lane3_of (s := governing (lane310 1 0 2)) (credit := true) (concurrency := false) (p := .mark) (by decide +kernel)
  have c := lane3_of (s := governing (metered 40 .hold 0)) (credit := false) (concurrency := true) (p := .hold) (by decide +kernel)
  have d := lane3_of (s := governing (metered 40 .refuse 0)) (credit := false) (concurrency := true) (p := .refuse) (by decide +kernel)
  have e := lane3_of (s := governing (lane310 0 40 1)) (credit := false) (concurrency := true) (p := .mark) (by decide +kernel)
  have f := lane3_of (s := governing (lane310 0 40 2)) (credit := false) (concurrency := false) (p := .mark) (by decide +kernel)
  exact ⟨by simp, rfl, rfl, rfl, rfl, ⟨a.1.mpr rfl, a.2.1.mpr rfl⟩,
    ⟨b.1.mpr rfl, mt b.2.1.mp (by simp)⟩, ⟨mt c.1.mp (by simp), c.2.2⟩, ⟨mt d.1.mp (by simp), d.2.2⟩,
    ⟨mt e.1.mp (by simp), e.2.2, e.2.1.mpr rfl⟩, ⟨mt f.1.mp (by simp), f.2.2, mt f.2.1.mp (by simp)⟩⟩

/-- Lane 3 of `governing` under policy HOLD with concurrency limit 2 and two in flight: a hold with cause CONCURRENCY. -/
def crowded : State := governing (lane310 40 0 2)

/-- A Hold Queue with no free slot. -/
def fullQueue : List HoldEntry := List.replicate 48 (held (passage 9 9 4 none) .order)

/-- Sixteen local responses. -/
def fullLocal : List LocalResponse := List.replicate 16 { tag := 1, status := .refusedRate }

/-- The state after reset with one local slot free. -/
def oneSlot : State := { State.reset with localQueue := fullLocal.tail }

/-- Every tag LIVE. -/
def noTags (s : State) : State := { s with tags := Vector.replicate 128 (.live (flight 8 80 none)) }

/-- The clauses of `ResourceChecks`, each with its intended disposition, at the edges of room and of the slots. -/
theorem witness_ResourceChecks :
    (let r := readOf 1 1 0 4
     let p := passage 1 1 4 none
     let c := classifyIn .govern p
     (busy.mode = .operating .govern ∧ wellFormedRequest r = some p ∧ clashes p.tag busy = false) ∧
     (policyIntent .govern (c (governing (metered 40 .refuse 0))) (governing (metered 40 .refuse 0)) = .refuse .refusedRate) ∧
     (policyIntent .govern (c crowded) crowded = .hold .concurrency ∧
      hasRoom p { crowded with hold := fullQueue.tail } = true ∧ hasRoom p { crowded with hold := fullQueue } = false) ∧
     (policyIntent .bypass unclassified State.reset = .forward ∧
      hasHeld 1 { State.reset with hold := [held (passage 1 2 4 none) .tags] } = true ∧ hasHeld 1 State.reset = false) ∧
     lowestFree (noTags State.reset) = none ∧ lowestFree State.reset = some 0 ∧
     slotFree oneSlot = true ∧
     slotFree { State.reset with localQueue := fullLocal } = false ∧
     heldEligible busy = true ∧ heldEligible (noTags busy) = false ∧ heldEligible State.reset = false) := by
  decide +kernel

/-- A malformed request, and one whose tag a LIVE entry carries; fifteen local responses wait. -/
theorem witness_ProtocolRefusalTaken :
    (oneSlot.Evaluates (readOf 1 1 0 0) (readOf 1 1 0 0) ∧ oneSlot.mode = .operating .bypass ∧
      oneSlot.localQueue.length < 16 ∧ wellFormedRequest (readOf 1 1 0 0) = none) ∧
    busy.Evaluates (readOf 1 80 0 4) (readOf 1 80 0 4) ∧ busy.mode = .operating .govern ∧ busy.localQueue.length < 16 ∧
      wellFormedRequest (readOf 1 80 0 4) = some (passage 1 80 4 none) ∧ busy.Carries 80 := by
  refine ⟨by decide +kernel, by decide +kernel, rfl, by decide +kernel, by decide +kernel, ?_⟩
  exact (clashes_iff _ _).mp (by decide +kernel)

/-- What the checks hand on for a READ of 4 beats of requester 1, tag 1, governed on lane 3 by rule 0. -/
def judgedOnLane3 (short : Bool) : Judged :=
  { req := { passage 1 1 4 (some 3) with rule := some 0 }, screenMark := false, short := short, entryLogs := false }

/-- MONITOR, with every unmatched request screened. -/
def screening (s : State) : State :=
  inMode .monitor { s with straps := { channel := 0, start := 0, unmatched := true } }

/-- What the checks hand on for a READ of 4 beats of requester `q`, tag 1, that MONITOR marks as screened. -/
def judgedScreened (q : Nat) : Judged :=
  { req := passage q 1 4 none, screenMark := true, short := false, entryLogs := false }

/-- A forward in GOVERN on lane 3 at the least credit and as a mark without, a screen mark in MONITOR, and one in BYPASS
without a lane; one of a stalled record evaluated again. -/
theorem witness_RequestForwarded :
    (State.Evaluates (readOf 1 1 0 4) (readOf 1 1 0 4) (governing (metered 40 .hold 1)) ∧
      evaluate (readOf 1 1 0 4) (governing (metered 40 .hold 1)) = .forward (judgedOnLane3 false) 0) ∧
    evaluate (readOf 1 1 0 4) State.reset =
      .forward { req := passage 1 1 4 none, screenMark := false, short := false, entryLogs := false } 0 ∧
    evaluate (readOf 1 1 0 4) (governing (metered 40 .mark 0)) = .forward (judgedOnLane3 true) 0 ∧
    evaluate (readOf 1 1 0 4) (screening State.reset) = .forward (judgedScreened 1) 0 ∧
    State.Evaluates (readOf 2 2 0 4) (readOf 1 1 0 4)
      { governing (metered 40 .hold 1) with offered := some (readOf 1 1 0 4), evalDue := true } := by
  exact ⟨by decide +kernel, by decide +kernel, by decide +kernel, by decide +kernel, rfl, .inr ⟨rfl, rfl⟩⟩

/-- A hold at taking for each cause: no credit, no concurrency, order, no tag; a screen mark held. -/
theorem witness_RequestHeld :
    (State.Evaluates (readOf 1 1 0 4) (readOf 1 1 0 4) (governing (metered 40 .hold 0)) ∧
      evaluate (readOf 1 1 0 4) (governing (metered 40 .hold 0)) = .hold (judgedOnLane3 true) .budget) ∧
    evaluate (readOf 1 1 0 4) crowded = .hold (judgedOnLane3 false) .concurrency ∧
    evaluate (readOf 9 1 0 4) { State.reset with hold := fullQueue.tail } =
      .hold { req := passage 9 1 4 none, screenMark := false, short := false, entryLogs := false } .order ∧
    evaluate (readOf 1 1 0 4) (noTags State.reset) =
      .hold { req := passage 1 1 4 none, screenMark := false, short := false, entryLogs := false } .tags ∧
    evaluate (readOf 9 1 0 4) (screening { State.reset with hold := fullQueue.tail }) = .hold (judgedScreened 9) .order := by
  decide +kernel

/-- A refusal for the rate, one for a full queue, one of a screen mark for a full queue, and a screened request whose
entry logs refusals. -/
theorem witness_RequestRefused :
    (State.Evaluates (readOf 1 1 0 4) (readOf 1 1 0 4) (governing (metered 40 .refuse 0)) ∧
      evaluate (readOf 1 1 0 4) (governing (metered 40 .refuse 0)) = .refuse (judgedOnLane3 true) .refusedRate) ∧
    evaluate (readOf 1 1 0 4) { crowded with
        hold := fullQueue, limits := { Limits.reset with fullAction := .refuse } } =
      .refuse (judgedOnLane3 false) .refusedFull ∧
    evaluate (readOf 9 1 0 4) (screening { State.reset with
        hold := fullQueue, limits := { Limits.reset with fullAction := .refuse } }) =
      .refuse (judgedScreened 9) .refusedFull ∧
    evaluate (readOf 1 1 0 4) (inMode .govern { State.reset with
        rules := State.reset.rules.set 0 { ruleTo 3 with action := .refuse, logRefusals := true } }) =
      .refuse { req := { passage 1 1 4 none with rule := some 0 }, screenMark := true, short := false, entryLogs := true }
        .refusedScreen := by
  decide +kernel

/-- Example 1.9: a full queue under STALL; a transitional state; a stalled record that nothing brings on. -/
theorem witness_StallLeavesNoTrace :
    (State.Evaluates (readOf 1 1 0 4) (readOf 1 1 0 4) { State.reset with mode := .quiesced } ∧
      ∀ m, ({ State.reset with mode := .quiesced }).mode ≠ .operating m) ∧
    (State.Evaluates (readOf 9 20 0 2) (readOf 9 20 0 2) { governing (metered 40 .hold 0) with hold := fullQueue } ∧
      evaluate (readOf 9 20 0 2) { governing (metered 40 .hold 0) with hold := fullQueue } = .stall) ∧
    ({ State.reset with offered := some (readOf 9 20 0 2) }).phase = .running ∧
      ({ State.reset with offered := some (readOf 9 20 0 2) }).evalDue = false :=
  ⟨⟨by decide +kernel, by simp⟩, by decide +kernel, rfl, rfl⟩

/-- Example 7.6's T0, with every other trigger at reset. -/
def oneTrigger : State :=
  let window : Pattern := { base := 0x400, limit := 0x4FF, value := 0, mask := 0, kinds := 7 }
  let t0 : Trigger := { enabled := true, mode := .once, gen := 0, pattern := window, armed := true }
  { State.reset with triggers := State.reset.triggers.set 0 t0 }

/-- Requests at the two ends of the window match, the pages beside it do not. -/
theorem witness_TriggersEvaluated :
    (∀ t : TriggerId, oneTrigger.triggers[t].fires { passage 1 1 4 none with address := 0x3FF000 } = false) ∧
    (∀ t : TriggerId, oneTrigger.triggers[t].fires { passage 1 1 4 none with address := 0x500000 } = false) ∧
    (∃ t : TriggerId, oneTrigger.triggers[t].fires { passage 1 1 4 none with address := 0x400000 } = true) ∧
    ∃ t : TriggerId, oneTrigger.triggers[t].fires { passage 1 1 4 none with address := 0x4FFFE0 } = true := by
  decide +kernel

/-- Credit at a balance of 1, none at 0; a CLOSED lane has none. -/
theorem witness_ChargeByCredit :
    (metered 40 .mark 1).Credit ∧ ¬ (metered 40 .mark 0).Credit ∧ Lane.reset.Credit ∧
      ¬ ({ Lane.reset with live := { LaneConfig.reset with kind := .closed } }).Credit := by
  decide +kernel

/-- Lane 3 with a watermark of 32: a charge of 16 beats that reaches it or not, with credit and without. -/
theorem witness_ChargeRaisesOncePerPeriod :
    (((lane310 1 16 1).charged 16).consumed = 32 ∧ (lane310 1 16 1).watermarkReached = false ∧ (lane310 1 16 1).Credit) ∧
    (((lane310 1 15 1).charged 16).consumed = 31 ∧ (lane310 1 15 1).Credit) ∧
    (((lane310 0 15 1).charged 16).consumed = 31 ∧ ¬ (lane310 0 15 1).Credit ∧ (lane310 0 15 1).exhausted = false) ∧
    ((lane310 0 16 1).charged 16).consumed = 32 ∧ ¬ (lane310 0 16 1).Credit := by
  decide +kernel

/-- A tick that may come, with LIVE and FREE entries; one that waits for each of the events that can be due. -/
theorem witness_TickAdvancesEveryCountdown :
    (merger.phase = .running ∧ tickDue merger = false ∧ merger.tags[(3 : DownTag)] = .live (flight 1 7 none) ∧
      merger.tags[(0 : DownTag)].isLive = false) ∧
    tickDue expiringCommit = true ∧ tickDue { State.reset with hold := held59 0 } = true ∧
    tickDue { State.reset with hold := held59 250 } = true ∧
    tickDue (withTag 127 (.live { flight 1 7 none with remaining := some 0 }) State.reset) = true ∧
    tickDue { State.reset with mode := .quiescing, quiesceTimer := some 0 } = true := by
  decide +kernel

/-- PG0 about to expire with a commit, the sixteen lanes bound to it; PG3 about to expire with no lane bound to it. -/
theorem witness_GeneratorExpires :
    expiringCommit.phase = .running ∧ expiringCommit.gens[(0 : Gen)].expiring = true ∧
      (∀ l : LaneId, expiringCommit.lanes[l].live.gen = 0) ∧
      ({ State.reset with gens := State.reset.gens.set 3 { Generator.reset with expiring := true } }).gens[(3 : Gen)].expiring =
        true ∧ ∀ l : LaneId, State.reset.lanes[l].live.gen ≠ 3 := by
  decide +kernel

/-- The entry on lane 3 that is not refusal pending, forced or blocked; one that is each; the lane as in
`witness_LaneTestAtTaking`. -/
theorem witness_HeldEntryJudged :
    ((held (passage 5 1 4 (some 3)) .order).refusal = none ∧ (held (passage 5 1 4 (some 3)) .order).forced = false ∧
      (held (passage 5 1 4 (some 3)) .order).req.lane = some 3) ∧
    ({ held (passage 5 1 4 none) .order with refusal := some .rate }).refusal ≠ none ∧
    (∃ x ∈ held59 500, x.req.requester = (held (passage 5 3 4 none) .order).req.requester ∧ x.refusal = none) ∧
    (¬ ∃ x ∈ held59 500, x.req.requester = (held (passage 6 3 4 none) .order).req.requester ∧ x.refusal = none) ∧
    ({ held (passage 5 1 4 (some 3)) .order with forced := true }).forced = true ∧
    (governing (lane310 1 0 1)).mode = .operating .govern ∧ State.reset.mode = .operating .bypass := by
  decide +kernel

/-- The second of two held entries; a lane that a scan finds short of credit, and one it does not. -/
theorem witness_ScanJudgesOldestFirst :
    ({ State.reset with hold := held59 500 }).hold[1]? = (held59 500)[1]? ∧ ((held59 500)[1]?).isSome = true ∧
      3 ∈ (scan busy [] busy.hold).shorts ∧ 2 ∉ (scan busy [] busy.hold).shorts := by
  decide +kernel

/-- A scan with a grant to an entry of a lane short of credit, whose EXHAUSTED is still to come; one without a tag, one
with the channel occupied, one with nothing held. -/
theorem witness_ReleaseScanGrantsOldestEligible :
    (busy.phase = .running ∧ busy.scanDue = true ∧ busy.downRequest = none ∧ lowestFree busy = some 1 ∧
      (scan busy [] busy.hold).first = some 0 ∧ busy.hold[0]? = some (held (passage 5 50 4 (some 3)) .order) ∧
      3 ∈ (scan busy [] busy.hold).shorts ∧ busy.lanes[(3 : LaneId)].exhausted = false) ∧
    ({ busy with downRequest := some offered }).downRequest ≠ none ∧ lowestFree (noTags busy) = none ∧
    (scan { State.reset with hold := [] } [] []).first = none := by
  decide +kernel

/-- An entry of requester 2 on lane 3 that is refusal pending. -/
def leaving (r : HoldRefusal) : HoldEntry := { held (passage 2 2 4 (some 3)) .order with refusal := some r }

/-- Fifteen local responses, and an entry refusal pending behind one that waits. -/
def leavingState (r : HoldRefusal) : State :=
  { oneSlot with hold := [held (passage 1 1 4 none) .order] ++ leaving r :: [held (passage 2 3 4 none) .order] }

/-- Each of the three statuses. -/
theorem witness_RefusalPendingLeaves (r : HoldRefusal) :
    (leavingState r).phase = .running ∧ (leavingState r).localQueue.length < 16 ∧
      (leavingState r).hold = [held (passage 1 1 4 none) .order] ++ leaving r :: [held (passage 2 3 4 none) .order] ∧
      (∀ x ∈ [held (passage 1 1 4 none) .order], x.refusal = none) ∧ (leaving r).refusal = some r :=
  ⟨rfl, show (15 : Nat) < 16 by decide, rfl, by decide, rfl⟩

/-- Example 5.9's tag 2 at half its limit and at 0, under both expiry actions. -/
theorem witness_HeldEntryAgesAndExpires :
    (({ State.reset with hold := held59 250 }).hold[(1 : Fin 48).val]?.map
        (fun e => (e.aged, e.forced, e.refusal, e.remaining, e.holdLimit / 2)) = some (false, false, none, 250, 250)) ∧
    (({ State.reset with hold := held59 0 }).hold[(1 : Fin 48).val]?.map (fun e => (e.forced, e.refusal, e.remaining)) =
      some (false, none, 0)) ∧
    State.reset.limits.expiryAction = .force ∧ refusing.limits.expiryAction = .refuse := by
  decide +kernel

/-- A record on offer downstream; a response on offer upstream. -/
theorem witness_ChannelsFreed :
    State.reset.phase = .running ∧ ({ State.reset with downRequest := some offered }).downRequest = some offered ∧
      ({ State.reset with upResponse := some { tag := 7, status := .okay, data := [], source := .memorySide } }).upResponse =
        some { tag := 7, status := .okay, data := [], source := .memorySide } := ⟨rfl, rfl, rfl⟩

/-- A LIVE entry at 0, before and after it is timeout pending. -/
theorem witness_ResponseTimesOut :
    (withTag 4 (.live { flight 1 7 (some 3) with remaining := some 0 }) State.reset).tags[(4 : DownTag)] =
        .live { flight 1 7 (some 3) with remaining := some 0 } ∧
    (withTag 127 (.live { flight 1 7 none with remaining := some 0, timeoutPending := true }) oneSlot).tags[(127 : DownTag)] =
      .live { flight 1 7 none with remaining := some 0, timeoutPending := true } ∧
    oneSlot.localQueue.length < 16 := by
  decide +kernel

/-- A response from memory on offer upstream. -/
def relayedNow : UpResponse := { tag := 7, status := .okay, data := [], source := .memorySide }

/-- Example 1.8's tag 3 with the channel free and the turn MEMORY; with a local response on offer; with the turn LOCAL;
while a response is being relayed. -/
theorem witness_ResponseRelayed :
    (merger.phase = .running ∧ merger.downResponse = none ∧ merger.tags[(3 : DownTag)] = .live (flight 1 7 none) ∧
      merger.upResponse = none ∧ merger.turn = .memorySide ∧ merger.localQueue ≠ []) ∧
    ({ merger with upResponse := some { tag := 1, status := .expired, data := [], source := .localSide } }).upResponse =
      some { tag := 1, status := .expired, data := [], source := .localSide } ∧
    ({ merger with turn := .localSide }).turn = .localSide ∧
    (({ merger with upResponse := some relayedNow }).upResponse = some relayedNow ∧ relayedNow.source = .memorySide) := by
  decide +kernel

/-- An ORPHANED tag and a FREE one, with no relay under way; one under way; each of the three rows. -/
theorem witness_LateAndUnknownResponsesDiscarded :
    (∀ x, (withTag 4 (.orphaned (flight 1 7 none)) State.reset).upResponse = some x → x.source = .localSide) ∧
      (withTag 4 (.orphaned (flight 1 7 none)) State.reset).tags[(4 : DownTag)] = .orphaned (flight 1 7 none) ∧
      State.reset.tags[(127 : DownTag)] = .free ∧
      (({ State.reset with upResponse := some relayedNow }).upResponse = some relayedNow ∧
        relayedNow.source = .memorySide) ∧
      Instr.unknownResponse ∈ [Instr.responseRelay, Instr.orphanReturn, Instr.unknownResponse] :=
  ⟨by simp [withTag, State.reset], by decide +kernel, by decide +kernel, ⟨rfl, rfl⟩, by simp⟩

/-- Example 1.8's last grant, where the memory side is empty though the turn names it; a grant by the turn; the local
side waits for the memory side's turn, for the channel, and with nothing queued. -/
theorem witness_LocalResponseGranted :
    (merger.localQueue = { tag := 12, status := .refusedRate } :: [{ tag := 40, status := .timedOut }] ∧
      merger.upResponse = none ∧ ∀ h, merger.downResponse = some h → merger.tags[h.tag].isLive = false) ∧
    ({ merger with turn := .localSide, downResponse := some { tag := 5, answer := .okay [] } }).turn = .localSide ∧
    (({ merger with downResponse := some { tag := 5, answer := .okay [] } }).turn = .memorySide ∧
      merger.tags[(5 : DownTag)].isLive = true) ∧
    ({ merger with upResponse := some relayedNow }).upResponse ≠ none ∧ State.reset.localQueue = [] :=
  ⟨⟨rfl, rfl, by simp [merger, withTag, State.reset]⟩, rfl, ⟨rfl, by decide +kernel⟩, by simp, rfl⟩

/-- An empty Fault Record and a full one. -/
theorem witness_FaultCountsAndRecords : State.reset.faults.record = none ∧ clashed.faults.record.isSome = true := by
  decide +kernel

/-- Example 7.7's full log, and a log with one place left. -/
theorem witness_LogStoresOrLoses :
    (64 ≤ ({ State.reset with log := logOf 200 64 }).log.records.length) ∧
      ({ State.reset with log := logOf 200 63 }).log.records.length < 64 := by
  decide +kernel

/-- QUIESCING drained, RESTARTING emptied, and a state that is neither. -/
theorem witness_DrainedStatesComplete :
    (({ State.reset with mode := .quiescing }).mode = .quiescing ∧ State.reset.hold = [] ∧
      ∀ t : DownTag, State.reset.tags[t].isLive = false) ∧
    (({ State.reset with mode := .restarting }).mode = .restarting ∧ State.reset.hold = []) ∧
    busy.mode ≠ .quiescing ∧ busy.mode ≠ .restarting := by
  decide +kernel

/-- A frame with one payload byte for MODE, received and verified. -/
theorem witness_modeFrame (b : Byte) :
    (write .mode 0 [b]).Received .write State.reset ∧ (write .mode 0 [b]).Verifies .write .mode ∧
      (write .mode 0 [b]).index = 0 ∧ (write .mode 0 [b]).payload = [b] :=
  ⟨⟨rfl, .inl ⟨rfl, show (0 : Fin 8) ≠ 7 by decide⟩⟩, rfl, rfl, rfl⟩

theorem witness_ModeRequestsAccepted :
    State.reset.mode = .operating .bypass ∧ ∀ b : Byte, (write .mode 0 [b]).Received .write State.reset :=
  ⟨rfl, fun b => (witness_modeFrame b).1⟩

/-- An operating mode with something held and with nothing; QUIESCING; QUIESCED. -/
theorem witness_QuiesceAndResumeAccepted :
    (write .mode 0 [3]).Received .write busy ∧ busy.mode = .operating .govern ∧ busy.hold ≠ [] ∧
      (State.reset.hold = [] ∧ ∀ t : DownTag, State.reset.tags[t].isLive = false) ∧
      (write .mode 0 [4]).Received .write { busy with mode := .quiescing } ∧
      (write .mode 0 [4]).Received .write { State.reset with mode := .quiesced } :=
  ⟨⟨rfl, .inl ⟨rfl, by decide⟩⟩, rfl, by decide +kernel, by decide +kernel, ⟨rfl, .inl ⟨rfl, by decide⟩⟩,
    ⟨rfl, .inl ⟨rfl, by decide⟩⟩⟩

/-- GOVERN with an entry held; QUIESCED with the resume mode GOVERN. -/
theorem witness_RestartAccepted :
    (write .mode 0 [5]).Received .write busy ∧ busy.mode = .operating .govern ∧ busy.hold ≠ [] ∧
      ({ State.reset with mode := .quiesced, resume := .govern }).mode = .quiesced ∧
      ({ State.reset with mode := .quiesced, resume := .govern }).hold = [] :=
  ⟨⟨rfl, .inl ⟨rfl, by decide⟩⟩, rfl, by decide +kernel, rfl, rfl⟩

/-- Each state whose table row holds WRONG_MODE or BUSY; the lowest unlisted request code. -/
theorem witness_ModeRequestsRefused :
    (write .mode 0 [0]).Received .write { State.reset with mode := .quiescing } ∧
      (write .mode 0 [0]).Received .write { State.reset with mode := .quiesced } ∧
      (write .mode 0 [4]).Received .write State.reset ∧
      (write .mode 0 [5]).Received .write { State.reset with mode := .restarting } ∧
      ((write .mode 0 [6]).Received .write State.reset ∧ 6 ≤ (6 : Byte).toNat) :=
  ⟨⟨rfl, .inl ⟨rfl, by decide⟩⟩, ⟨rfl, .inl ⟨rfl, by decide⟩⟩, ⟨rfl, .inl ⟨rfl, by decide⟩⟩,
    ⟨rfl, .inl ⟨rfl, by decide⟩⟩, ⟨rfl, .inl ⟨rfl, by decide⟩⟩, by decide⟩

theorem witness_QuiesceForcedWithdraws :
    ({ busy with mode := .quiescing, quiesceTimer := some 0 }).phase = .running ∧
      ({ busy with mode := .quiescing, quiesceTimer := some 0 }).mode = .quiescing ∧
      ({ busy with mode := .quiescing, quiesceTimer := some 0 }).quiesceTimer = some 0 := ⟨rfl, rfl, rfl⟩

/-- No reset, a pin reset, a power-on reset; a command that is none of the three. -/
theorem witness_ResetsAndTheirEnd :
    State.reset.phase ≠ .inReset .powerOn ∧ (run .pinReset State.reset).phase = .inReset .pin ∧
      (run .powerOnReset State.reset).phase = .inReset .powerOn ∧
      Instr.timebaseTick ≠ .powerOnReset ∧ Instr.timebaseTick ≠ .pinReset ∧ ∀ p, Instr.timebaseTick ≠ .resetEnd p := by
  refine ⟨by decide +kernel, by decide +kernel, by decide +kernel, by simp, by simp, by simp⟩

/-- Frames of the five tables at the highest index, with payloads that decode and payloads that do not. -/
theorem witness_TableWritesReplaceOrRefuse :
    ((write .limits 0 limitsBytes).Received .write State.reset ∧ limitsBytes.length = 13 ∧
      (decodeLimits limitsBytes).isSome = true ∧ decodeLimits (List.replicate 13 0) = none) ∧
    ((write .rule 31 ruleBytes).index.toNat = (31 : RuleId).val ∧ ruleBytes.length = 14 ∧
      (decodeRule ruleBytes).isSome = true ∧ decodeRule (List.replicate 14 0) = none) ∧
    ((write .laneStaged 15 laneBytes).index.toNat = (15 : LaneId).val ∧ laneBytes.length = 11 ∧
      (decodeLane laneBytes).isSome = true ∧ decodeLane (List.replicate 11 0) = none) ∧
    ((write .period 3 [0, 0, 1]).index.toNat = (3 : Gen).val ∧ decodePeriod [0, 0, 1] = some 1 ∧
      decodePeriod [0, 0, 0] = none) ∧
    (write .trigger 7 []).index.toNat = (7 : TriggerId).val ∧
      (decodeTrigger [1, 0, 0, 0, 0, 4, 0, 0, 0, 4, 0xFF, 0, 0, 7]).isSome = true ∧
      decodeTrigger (List.replicate 14 0) = none := by
  decide +kernel

/-- Payloads at the ends of what each layout admits, and one past them. -/
theorem witness_WrittenPayloadsDecodeByLayout :
    ((decodeRule [0, 0x0F, 0xFF, 0xFF, 0xFF, 0x0F, 0xFF, 0xFF, 0xFF, 0, 0, 4, 2, 15]).isSome = true ∧
      decodeRule [0, 0x0F, 0xFF, 0xFF, 0xFF, 0x0F, 0xFF, 0xFF, 0xFF, 0, 0, 8, 2, 15] = none ∧
      decodeRule [0, 0, 0, 0, 0, 0x10, 0, 0, 0, 0, 0, 4, 2, 15] = none) ∧
    ((decodeTrigger [0, 2, 3, 0, 0, 0, 0, 0x0F, 0xFF, 0xFF, 0xFF, 0, 0, 1]).isSome = true ∧
      decodeTrigger [0, 3, 3, 0, 0, 0, 0, 0x0F, 0xFF, 0xFF, 0xFF, 0, 0, 1] = none) ∧
    ((decodeLane [2, 0, 0, 16, 0, 0, 16, 128, 2, 3, 0]).isSome = true ∧
      decodeLane [2, 0, 0, 15, 0, 0, 0, 128, 2, 3, 0] = none ∧ decodeLane [2, 0, 0, 16, 0, 0, 17, 128, 2, 3, 0] = none ∧
      decodeLane [2, 0, 0, 16, 0, 0, 16, 129, 2, 3, 0] = none) ∧
    ((decodeLimits [0xFF, 0xFF, 1, 0, 0, 1, 0, 1, 1, 1, 64, 1, 127]).isSome = true ∧
      decodeLimits [0xFF, 0xFF, 1, 0, 0, 0, 0, 1, 1, 1, 64, 1, 127] = none ∧
      decodeLimits [0xFF, 0xFF, 1, 1, 0, 0, 0, 1, 1, 1, 65, 1, 127] = none ∧
      decodeLimits [0xFF, 0xFF, 1, 1, 0, 0, 0, 1, 1, 1, 64, 1, 128] = none) ∧
    decodePeriod [0x0F, 0x42, 0x40] = some 1000000 ∧ decodePeriod [0x0F, 0x42, 0x41] = none := by
  decide +kernel

/-- A read of the highest index of a class; a Fault Record empty and full; a position of the Hold Queue occupied and
empty; a legal value of each class. -/
theorem witness_ReadsWriteBack :
    ((frame .read .tags 0 127 []).Received .read State.reset ∧ (frame .read .tags 0 127 []).index.toNat ≤ 127) ∧
    (State.reset.faults.record = none ∧ clashed.faults.record.isSome = true) ∧
    (busy.hold[0]? = some (held (passage 5 50 4 (some 3)) .order) ∧ busy.hold.length ≤ 1) ∧
    (ruleTo 15).pattern.legal = true ∧ (lane310 0 0 0).live.legal = true ∧ Trigger.reset.pattern.legal = true ∧
      ({ Limits.reset with responseLimit := none }).legal = true ∧ Generator.reset.Sound := by
  decide +kernel

/-- The frames of each operation; sets that name no generator, one with nothing pending, one with a pending commit; an
operation code past each end of the list. -/
theorem witness_OperationWritesAct :
    ((write .laneLive 15 []).Received .write State.reset ∧ (write .laneLive 15 []).index.toNat = (15 : LaneId).val) ∧
    ((0xF0 : Byte).setWidth 4 = 0#4 ∧ (0x0F : Byte).setWidth 4 ≠ 0#4) ∧
    (∀ g : Gen, (0x0F : Byte).getLsbD g = true → State.reset.gens[g].commitPending = false) ∧
    ((0x01 : Byte).getLsbD (0 : Gen) = true ∧ expiringCommit.gens[(0 : Gen)].commitPending = true) ∧
    (write .commit 0 [1, 0x0F]).payload = [1, 0x0F] ∧ (write .fault 0 [1]).Received .write clashed ∧
    ((write .commit 0 [3, 0x0F]).Received .write State.reset ∧ (3 : Byte) ≠ 1 ∧ (3 : Byte) ≠ 2) ∧
    ((write .fault 0 [0]).Received .write clashed ∧ (0 : Byte) ≠ 1 ∧ (0 : Byte) ≠ 2) := by
  decide +kernel

/-- Reads of LOG[1] and LOG[2]. -/
theorem witness_LogReadRemovesOldest :
    ((frame .read .log 0 1 []).Received .read State.reset ∧ (frame .read .log 0 1 []).index.toNat = 1) ∧
      (frame .read .log 0 2 []).Received .read State.reset ∧ (frame .read .log 0 2 []).index.toNat = 2 := by
  decide +kernel

/-- Example 8.6's first CLEAR, with one flag hit, one kept and one not named; thirteen masks; a list with flag code 13,
one that names flag 12 twice, thirteen masks with one code 2. -/
theorem witness_ClearAndMasksWrites :
    ((write .events 0 [0, 18, 9, 4]).Received .write events86 ∧
      (write .events 0 [0, 18, 9, 4]).payload =
        [((0 : Fin 13), (18 : Byte)), (9, 4)].flatMap (fun p => [BitVec.ofNat 8 p.1.val, p.2])) ∧
    ((events86.events.flags[(9 : Fin 13)]).set = true ∧
      ((9 : Fin 13), (events86.events.flags[(9 : Fin 13)]).raises) ∈ [((0 : Fin 13), (18 : Byte)), (9, 4)]) ∧
    ((events86.events.flags[(0 : Fin 13)]).set = true ∧
      ((0 : Fin 13), (events86.events.flags[(0 : Fin 13)]).raises) ∉ [((0 : Fin 13), (18 : Byte)), (9, 4)]) ∧
    (write .masks 0 (List.replicate 13 1)).payload =
      (Vector.replicate 13 true).toList.map (fun b => if b then 1 else 0) ∧
    (∃ p ∈ [((13 : Byte), (0 : Byte))], 13 ≤ p.1.toNat) ∧
    ¬ ([((12 : Byte), (0 : Byte)), (12, 1)].map Prod.fst).Nodup ∧
    ((write .masks 0 (List.replicate 12 1 ++ [2])).payload.length = 13 ∧
      ∃ b ∈ (write .masks 0 (List.replicate 12 1 ++ [2])).payload, 2 ≤ b.toNat) := by
  decide +kernel

/-- A frame that fails its check; one for another governor; a broadcast read; a write that no class serves; the first
index out of each range, and wrong lengths. -/
theorem witness_FramesRefusedOrIgnored :
    (¬ ({ write .rule 0 [] with check := 0 }).Verifies .write .rule ∧
      ({ write .rule 0 [] with check := 0 }).Received .write State.reset) ∧
    (write .hold 0 []).Received .write State.reset ∧
    (32 ≤ (write .rule 32 []).index.toNat ∧ (write .rule 31 [0]).payload.length ≠ 14 ∧
      16 ≤ (write .laneStaged 16 []).index.toNat ∧ 4 ≤ (write .period 4 []).index.toNat ∧
      8 ≤ (write .trigger 8 []).index.toNat) ∧
    ((write .events 0 [0]).payload.length < 2 ∧ 26 < (List.replicate 28 (0 : Byte)).length ∧ [0, 1, 2].length % 2 = 1) ∧
    2 < (frame .read .log 0 3 []).index.toNat ∧ ¬ (frame .write .rule 1 0 []).Received .write State.reset ∧
    ¬ (frame .read .log 7 1 []).Received .read State.reset := by
  decide +kernel

/-- More of them: an index of 1 where the range is 0 alone, with wrong lengths; a frame that spells another row's
operation and one that spells none; reads of LOG and of another class, by index and by length. -/
theorem witness_FramesRefusedOrIgnored_more :
    (0 < (write .mode 1 [0]).index.toNat ∧ (write .mode 0 []).payload.length ≠ 1 ∧
      (write .limits 0 limitsBytes.tail).payload.length ≠ 13 ∧ (write .laneLive 0 [0]).payload.length ≠ 0) ∧
    ((write .mode 0 [4]).payload.head? = some 4 ∧ (4 : Byte) ∈ ([0, 1, 2, 3, 4, 5] : List Byte) ∧ (4 : Byte) ≠ 0 ∧
      (write .mode 0 [6]).payload.head? = some 6 ∧ (6 : Byte) ∉ ([0, 1, 2, 3, 4, 5] : List Byte)) ∧
    ((frame .read .log 0 0 []).Received .read State.reset ∧ (frame .read .log 0 1 [0]).payload ≠ [] ∧
      (frame .read .hold 0 48 []).Received .read State.reset ∧ 47 < (frame .read .hold 0 48 []).index.toNat ∧
      (frame .read .hold 0 47 [0]).index.toNat ≤ 47 ∧ (frame .read .hold 0 47 [0]).payload ≠ []) := by
  decide +kernel

/-- Twenty-three bits; a frame of one payload byte that lacks its check byte; a reply under way. -/
theorem witness_FrameCutShortIsDiscarded :
    (List.replicate 23 true).length < 24 ∧
      bytesOfBits (List.replicate 23 false ++ [true] ++ List.replicate 15 true) = 0 :: 0 :: 1 :: [255] ∧
      ([255] : List Byte).length ≤ (1 : Byte).toNat ∧
      (run (.modeBypass (write .mode 0 [0])) State.reset).port.state = .reply := by
  decide +kernel

/-- A frame with the longest payload a length byte carries, while no reset lasts; each of the resets; a reply under way,
and a port in another state. -/
theorem witness_PortBytesRefineFrame :
    (write .events 0 (List.replicate 255 0)).payload.length ≤ 255 ∧ State.reset.phase = .running ∧
      (write .events 0 []).channel ≠ 7 ∧
      (run .pinReset State.reset).phase = .inReset .pin ∧ (run .powerOnReset State.reset).phase = .inReset .powerOn ∧
      (run (.modeBypass (write .mode 0 [0])) State.reset).port.state = .reply ∧ State.reset.port.state ≠ .reply := by
  decide +kernel

end Sys2Proof.Tests
end

section
/-! The tests that a Rule Table entry and a capture trigger make on a request (R24, R118): the window, the requester
under its mask, and the kinds set, each against the rule's own words. -/

namespace Sys2Proof.Machine

/-- Two words agree under a mask exactly when they agree at every bit that the mask sets. -/
theorem and_mask_eq_iff {w : Nat} (a b m : BitVec w) :
    a &&& m = b &&& m ↔ ∀ i : Fin w, m.getLsbD i = true → a.getLsbD i = b.getLsbD i := by
  constructor
  · intro h i hm
    have hbit := congrArg (fun x => x.getLsbD i) h
    simpa only [BitVec.getLsbD_and, hm, Bool.and_true] using hbit
  · intro h
    refine BitVec.eq_of_getLsbD_eq fun i hi => ?_
    rw [BitVec.getLsbD_and, BitVec.getLsbD_and]
    cases hm : m.getLsbD i with
    | false => rw [Bool.and_false, Bool.and_false]
    | true => rw [h ⟨i, hi⟩ hm]

/-- A kind is in the kinds set exactly when it is one of the three and the set has the bit of its code (section 11.3). -/
theorem getLsbD_code_iff (kinds : BitVec 3) (k : Kind) :
    kinds.getLsbD k.code.toNat = true ↔
      (k = .read ∧ kinds.getLsbD 0 = true) ∨ (k = .write ∧ kinds.getLsbD 1 = true) ∨
        (k = .fetch ∧ kinds.getLsbD 2 = true) := by
  cases k <;> simp [Kind.code]

/-- A pattern admits a request exactly by the window, the requester and the kinds set (R24 items 2 to 4). -/
theorem Pattern.admits_iff (x : Pattern) (p : Passage) :
    x.admits p = true ↔
      (x.base ≤ p.page ∧ p.page ≤ x.limit) ∧
        (∀ i : Fin 8, x.mask.getLsbD i = true → p.requester.getLsbD i = x.value.getLsbD i) ∧
        ((p.kind = .read ∧ x.kinds.getLsbD 0 = true) ∨ (p.kind = .write ∧ x.kinds.getLsbD 1 = true) ∨
          (p.kind = .fetch ∧ x.kinds.getLsbD 2 = true)) := by
  rw [← and_mask_eq_iff, ← getLsbD_code_iff]
  simp only [Pattern.admits, Bool.and_eq_true, decide_eq_true_eq, beq_iff_eq, and_assoc]

/-- An entry matches exactly when it is enabled and its pattern admits the request (R24). -/
theorem RuleEntry.admits_iff (e : RuleEntry) (p : Passage) :
    e.admits p = true ↔ e.enabled = true ∧ e.pattern.admits p = true := by
  rw [RuleEntry.admits, Bool.and_eq_true]

/-- A trigger matches exactly when it is enabled and armed and its pattern admits the request (R118). -/
theorem Trigger.fires_iff (t : Trigger) (p : Passage) :
    t.fires p = true ↔ (t.enabled = true ∧ t.armed = true) ∧ t.pattern.admits p = true := by
  rw [Trigger.fires, Bool.and_eq_true, Bool.and_eq_true]

/-- Settles O17: entry and trigger share the pattern, whose three tests are those of R24 and R118. -/
theorem rulesAndTriggersMatchExactly : Obligations.RulesAndTriggersMatchExactly := by
  unfold Obligations.RulesAndTriggersMatchExactly
  constructor
  · intro e p
    exact (RuleEntry.admits_iff e p).trans (and_congr_right' (Pattern.admits_iff e.pattern p))
  · intro t p
    exact (Trigger.fires_iff t p).trans (and_congr_right' (Pattern.admits_iff t.pattern p))

end Sys2Proof.Machine
end

section
/-! The charge of one lane (R47, R48, R49): the counters and the balance with credit and without, and what a charge
leaves alone. -/

namespace Sys2Proof.Machine

/-- A charge raises consumed, which stays at its top once there, and total forwarded, which wraps (R37, R38). -/
theorem Lane.charged_consumed_totalForwarded (cost : Nat) (l : Lane) :
    (l.charged cost).consumed = min 4294967295 (l.consumed + cost) ∧
      (l.charged cost).totalForwarded = l.totalForwarded + BitVec.ofNat 48 cost :=
  ⟨rfl, rfl⟩

/-- Both overrun counts rise by the part of the cost that had no credit (R48, R49). -/
theorem Lane.charged_overruns (cost : Nat) (l : Lane) :
    (l.charged cost).overrun = min 4294967295 (l.overrun + if l.hasCredit then 0 else cost) ∧
      (l.charged cost).totalOverrun = min 4294967295 (l.totalOverrun + if l.hasCredit then 0 else cost) :=
  ⟨rfl, rfl⟩

/-- The charged balance by the lane's kind: it moves on a METERED lane alone, to the floor of −15 at the lowest when
there was no credit (R47, R48, R49). -/
theorem Lane.charged_balance (cost : Nat) (l : Lane) :
    (l.charged cost).balance =
      if l.live.kind = .metered then
        if l.hasCredit then l.balance - cost else max (l.balance - cost) (-15)
      else l.balance := by
  change l.chargedBalance cost = _
  unfold Lane.chargedBalance
  cases l.live.kind with
  | metered => rfl
  | openLane => rfl
  | closed => rfl

/-- A charge writes the balance, consumed, overrun and the two totals, and nothing else of the lane. -/
theorem Lane.charged_frame (cost : Nat) (l : Lane) :
    { l.charged cost with
      balance := l.balance, consumed := l.consumed, overrun := l.overrun,
      totalForwarded := l.totalForwarded, totalOverrun := l.totalOverrun } = l :=
  rfl

/-- Settles O27, by the lane's credit: the part of the cost without credit is nothing or the whole cost. -/
theorem chargeByCredit : Obligations.ChargeByCredit := by
  unfold Obligations.ChargeByCredit
  intro l cost
  obtain ⟨hconsumed, hforwarded⟩ := l.charged_consumed_totalForwarded cost
  obtain ⟨hoverrun, htotal⟩ := l.charged_overruns cost
  have hbalance := l.charged_balance cost
  refine ⟨hconsumed, hforwarded, fun hcredit => ?_, fun hcredit => ?_, l.charged_frame cost⟩
  · rw [← Lane.hasCredit_iff] at hcredit
    simp only [hcredit, if_true, Nat.add_zero] at hoverrun htotal hbalance
    exact ⟨hoverrun, htotal, hbalance⟩
  · rw [← Lane.hasCredit_iff] at hcredit
    simp only [hcredit] at hoverrun htotal hbalance
    exact ⟨hoverrun, htotal, hbalance⟩

end Sys2Proof.Machine
end

section
/-! The response timeout (R107, R108, R112): what the claim's parts write, what of the state they read, and the
orphan count after it. -/

namespace Sys2Proof.Machine

/-- What a record's arrival leaves in the log and in the Event Unit depends on these two, on the limits and on the
Timebase alone. -/
theorem logRecord_log_events_congr (b : RecordBody) {s s' : State} (hlog : s.log = s'.log)
    (hevents : s.events = s'.events) (hlimits : s.limits = s'.limits) (htime : s.timebase = s'.timebase) :
    (logRecord b s).log = (logRecord b s').log ∧ (logRecord b s).events = (logRecord b s').events := by
  by_cases hroom : s.log.records.length < Config.logCapacity
  · obtain ⟨hl, he⟩ := logRecord_stored (b := b) hroom
    obtain ⟨hl', he'⟩ := logRecord_stored (b := b) (hlog ▸ hroom)
    exact ⟨by rw [hl, hl', hlog, htime], by rw [he, he', hlog, hevents, hlimits]⟩
  · obtain ⟨hl, he⟩ := logRecord_lost (b := b) hroom
    obtain ⟨hl', he'⟩ := logRecord_lost (b := b) (hlog ▸ hroom)
    exact ⟨by rw [hl, hl', hlog, hlimits, htime], by rw [he, he', hevents]⟩

/-- The fall of a live count, lane by lane (R44). -/
theorem liveFalls_lane (lane : Option LaneId) (k : LaneId) (s : State) :
    (liveFalls lane s).lanes[k] =
      if lane = some k then { s.lanes[k] with liveCount := s.lanes[k].liveCount - 1 } else s.lanes[k] := by
  cases lane with
  | none => simp [liveFalls]
  | some l =>
    rw [liveFalls, updateLane_lane]
    by_cases hk : k = l
    · subst hk; simp
    · simp [hk, Ne.symm hk]

/-- What an entry's leaving LIVE writes: its tag, its lane's live count, and the scan and evaluation brought on. -/
theorem leaveLive_writes (t : DownTag) (f : Flight) (e : TagEntry) (s : State) :
    (leaveLive t f e s).tags = s.tags.set t e ∧
      (∀ k : LaneId, (leaveLive t f e s).lanes[k] =
        if f.lane = some k then { s.lanes[k] with liveCount := s.lanes[k].liveCount - 1 } else s.lanes[k]) ∧
      (leaveLive t f e s).scanDue = (s.scanDue || !s.hold.isEmpty) ∧
      (leaveLive t f e s).evalDue = (s.evalDue || s.offered.isSome) := by
  refine ⟨by simp [leaveLive], fun k => ?_, by simp [leaveLive], by simp [leaveLive]⟩
  have hlane := liveFalls_lane f.lane k (setTag t e s)
  simpa only [leaveLive, bringOn_fields, setTag_fields] using hlane

/-- A LIVE entry that becomes ORPHANED raises the orphan count by one (R111). -/
theorem orphanCount_of_orphaned {t : DownTag} {f g : Flight} {s s' : State} (hlive : s.tags[t] = .live f)
    (htags : s'.tags = s.tags.set t (.orphaned g)) : orphanCount s' = orphanCount s + 1 := by
  have hset : orphanCount s' = orphanCount (setTag t (.orphaned g) s) := by
    simp only [orphanCount, countTags, htags, setTag_fields]
  have hcount := countTags_setTag TagEntry.isOrphaned t (.orphaned g) s
  rw [hlive] at hcount
  rw [hset]
  simpa [orphanCount, TagEntry.isOrphaned] using hcount

/-- TAGS_LOW is raised exactly at the alarm level (R112). -/
theorem noteOrphans_events (s : State) :
    (noteOrphans s).events = if orphanCount s = s.limits.orphanAlarm then s.events.raise .tagsLow else s.events := by
  unfold noteOrphans
  split <;> simp

/-- A timeout's claim up to its two raises, before the record (R108). -/
def timeoutRaised (t : DownTag) (f : Flight) (s : State) : State :=
  raise .responseTimeout (countFault .responseTimeout (f.faultDetails t)
    (leaveLive t f f.orphan (queueLocal f.tag .timedOut s)))

/-- A timeout's claim before the completions are judged (R108). -/
def timedOut (t : DownTag) (f : Flight) (s : State) : State :=
  noteOrphans (logRecord (.timeout f.record f.lane f.rule t) (timeoutRaised t f s))

/-- The timeout is those effects with the completions judged on them. -/
theorem timeOut_eq_judgeDrained (t : DownTag) (f : Flight) (s : State) :
    timeOut t f s = judgeDrained (timedOut t f s) := rfl

/-- The entry and its lane after the claim, and what the claim brings on (R108). -/
theorem timedOut_writes (t : DownTag) (f : Flight) (s : State) :
    (timedOut t f s).tags = s.tags.set t f.orphan ∧
      (∀ k : LaneId, (timedOut t f s).lanes[k] =
        if f.lane = some k then { s.lanes[k] with liveCount := s.lanes[k].liveCount - 1 } else s.lanes[k]) ∧
      (timedOut t f s).scanDue = (s.scanDue || !s.hold.isEmpty) ∧
      (timedOut t f s).evalDue = (s.evalDue || s.offered.isSome) := by
  have hleave := leaveLive_writes t f f.orphan (queueLocal f.tag .timedOut s)
  simpa only [timedOut, timeoutRaised, noteOrphans_fields, logRecord_fields, raise_fields, countFault_fields,
    queueLocal_fields] using hleave

/-- The claim queues TIMED_OUT and counts the fault (R108, R141). -/
theorem timedOut_queue_faults (t : DownTag) (f : Flight) (s : State) :
    (timedOut t f s).localQueue = s.localQueue ++ [{ tag := f.tag, status := .timedOut }] ∧
      (timedOut t f s).faults = s.faults.counted .responseTimeout (f.faultDetails t) s.timebase := by
  simp [timedOut, timeoutRaised]

/-- The log and the events after the claim of a LIVE entry: those of FAULT, RESPONSE_TIMEOUT and the record, and
TAGS_LOW when the orphan count rises to the alarm level (R108, R112). -/
theorem timedOut_log_events {t : DownTag} {f : Flight} {s : State} (hlive : s.tags[t] = .live f) :
    let logged := logRecord (.timeout f.record f.lane f.rule t) (raise .responseTimeout (raise .fault s))
    (timedOut t f s).log = logged.log ∧
      (timedOut t f s).events =
        (if orphanCount s + 1 = s.limits.orphanAlarm then raise .tagsLow logged else logged).events := by
  intro logged
  obtain ⟨hlog, hevents⟩ := logRecord_log_events_congr (.timeout f.record f.lane f.rule t)
    (s := timeoutRaised t f s) (s' := raise .responseTimeout (raise .fault s))
    (by simp [timeoutRaised]) (by simp [timeoutRaised]) (by simp [timeoutRaised]) (by simp [timeoutRaised])
  have htags : (logRecord (.timeout f.record f.lane f.rule t) (timeoutRaised t f s)).tags =
      s.tags.set t f.orphan := by
    simpa only [timedOut, noteOrphans_fields] using (timedOut_writes t f s).1
  have hcount := orphanCount_of_orphaned hlive htags
  refine ⟨by simpa [timedOut] using hlog, ?_⟩
  rw [timedOut, noteOrphans_events, hcount, hevents]
  simp only [logRecord_fields, timeoutRaised, raise_fields, countFault_fields, leaveLive_fields, queueLocal_fields]
  split <;> rfl

/-- The claim writes nothing of the state but these eight items. -/
theorem timedOut_frame (t : DownTag) (f : Flight) (s : State) :
    { timedOut t f s with
      localQueue := s.localQueue, tags := s.tags, lanes := s.lanes, faults := s.faults, log := s.log,
      events := s.events, scanDue := s.scanDue, evalDue := s.evalDue } = s :=
  State.ext_fields (by simp [timedOut, timeoutRaised])

/-- A RESPONSE_DEADLINE that is due makes its entry timeout pending (R107). -/
theorem exec_responseDeadline_due {t : DownTag} {f : Flight} {s : State} (hrun : s.phase = .running)
    (hlive : s.tags[t] = .live f) (hpending : f.timeoutPending = false) (hzero : f.remaining = some 0) :
    exec (.responseDeadline t) s = .next (setTag t (.live { f with timeoutPending := true }) s) := by
  rw [exec, execResponseDeadline, whileRunning_running hrun]
  simp [responseDeadline, hlive, TagEntry.deadlineDue, hpending, hzero]

/-- The claim of a timeout pending entry that finds a slot is its timeout (R108). -/
theorem exec_responseTimeout_claimed {t : DownTag} {f : Flight} {s : State} (hrun : s.phase = .running)
    (hlive : s.tags[t] = .live f) (hpending : f.timeoutPending = true) (hslot : s.localQueue.length < 16) :
    exec (.responseTimeout t) s = .next (timeOut t f s) := by
  rw [exec, execResponseTimeout, whileRunning_running hrun]
  simp [responseTimeout, hlive, hpending, (slotFree_iff s).mpr hslot]

/-- Settles O38: the claim's state before the completions is `timedOut`, whose items are read off one by one. -/
theorem responseTimesOut : Obligations.ResponseTimesOut := by
  unfold Obligations.ResponseTimesOut
  intro t f s hrun hlive
  refine ⟨fun hpending hzero => exec_responseDeadline_due hrun hlive hpending hzero, fun hpending hslot => ?_⟩
  obtain ⟨htags, hlanes, hscan, heval⟩ := timedOut_writes t f s
  obtain ⟨hqueue, hfaults⟩ := timedOut_queue_faults t f s
  obtain ⟨hlog, hevents⟩ := timedOut_log_events hlive
  have hexec : exec (.responseTimeout t) s = .next (judgeDrained (timedOut t f s)) := by
    rw [exec_responseTimeout_claimed hrun hlive hpending hslot, timeOut_eq_judgeDrained]
  exact ⟨timedOut t f s, hexec, hqueue, htags, hlanes, hfaults, hlog, hevents, hscan, heval, timedOut_frame t f s⟩

end Sys2Proof.Machine
end

section
/-! A record's arrival at the Capture Log (R124, R128, R129, R130): the sequence number, the policy of a full log, and
what an arrival leaves alone. -/

namespace Sys2Proof.Machine

/-- Every arrival spends one sequence number, stored or lost (R124). -/
theorem logRecord_next (b : RecordBody) (s : State) : (logRecord b s).log.next = s.log.next + 1 := by
  by_cases hroom : s.log.records.length < Config.logCapacity
  · rw [(logRecord_stored hroom).1]
  · rw [(logRecord_lost hroom).1]

/-- The sequence number advances modulo 65,536 (R124). -/
theorem seq_add_one_eq_ofNat (n : BitVec 16) : n + 1 = BitVec.ofNat 16 (n.toNat + 1) := by
  rw [BitVec.ofNat_add, BitVec.ofNat_toNat, BitVec.setWidth_eq, BitVec.ofNat_eq_ofNat]

/-- A full log keeps its records under STOP, and gives up its oldest to the arrival under WRAP (R128). -/
theorem overflowed_eq (p : LogPolicy) (r : CaptureRecord) (rs : List CaptureRecord) :
    overflowed p r rs = if p = .stop then rs else rs.tail ++ [r] := by
  cases p with
  | stop => rfl
  | wrap => simp [overflowed]

/-- An arrival writes the log and the events, and nothing else. -/
theorem logRecord_frame (b : RecordBody) (s : State) :
    { logRecord b s with log := s.log, events := s.events } = s :=
  State.ext_fields (by simp)

/-- Settles O44, by the log's room: an arrival is stored while fewer than 64 records stand there, and meets the log
policy otherwise. -/
theorem logStoresOrLoses : Obligations.LogStoresOrLoses := by
  unfold Obligations.LogStoresOrLoses
  intro b s r
  refine ⟨?_, fun hroom => ?_, fun hfull => ?_, logRecord_frame b s⟩
  · rw [logRecord_next, seq_add_one_eq_ofNat]
  · obtain ⟨hlog, hevents⟩ := logRecord_stored (b := b) hroom
    rw [hlog]
    exact ⟨rfl, rfl, hevents⟩
  · obtain ⟨hlog, hevents⟩ := logRecord_lost (b := b) (Nat.not_lt.mpr hfull)
    rw [hlog]
    exact ⟨overflowed_eq s.limits.logPolicy r s.log.records, rfl, hevents⟩

end Sys2Proof.Machine
end

section
/-! One step, said once: which command runs, and everything a command can do to the state (sections 1 to 10). The
statements about all commands go through `exec_cases` and `Event`. -/

namespace Sys2Proof.Machine

/-! ## The command at the front -/

/-- The commands that begin or end a reset (R148, R149). -/
def resetCommand : Instr → Bool
  | .powerOnReset | .pinReset | .resetEnd _ => true
  | _ => false

/-- What a command that is none of the three does while no reset lasts. -/
def effect : Instr → State → State
  | .requestTaken r => evaluateHead r
  | .strayBeatDiscard _ => id
  | .releaseScan => scanIfDue
  | .downstreamRequestTaken => downstreamTaken
  | .refusalPendingQueued => queueOldestRefused
  | .holdAged n => ageHeld n
  | .holdExpiryForce n => expireHeld .force expireForce n
  | .holdExpiryRefuse n => expireHeld .refuse expireRefuse n
  | .responseDeadline t => responseDeadline t
  | .responseTimeout t => responseTimeout t
  | .responseRelay m => offerResponse m
  | .localResponseSent => sendLocal
  | .upstreamResponseTaken => upstreamTaken
  | .orphanReturn m => offerResponse m
  | .unknownResponse m => offerResponse m
  | .timebaseTick => tickIfClear
  | .periodGeneratorExpiry g => expireIfDue g
  | .quiesceForced => forceQuiesce
  | .powerOnReset | .pinReset | .resetEnd _ => id
  | .modeBypass f => takeOperation .mode modeCodes 0 f
  | .modeMonitor f => takeOperation .mode modeCodes 1 f
  | .modeGovern f => takeOperation .mode modeCodes 2 f
  | .quiesce f => takeOperation .mode modeCodes 3 f
  | .resume f => takeOperation .mode modeCodes 4 f
  | .restart f => takeOperation .mode modeCodes 5 f
  | .limitsWrite f => takeFrame .write .limits f
  | .ruleWrite f => takeFrame .write .rule f
  | .laneStagedWrite f => takeFrame .write .laneStaged f
  | .laneLiveWrite f => takeFrame .write .laneLive f
  | .periodWrite f => takeFrame .write .period f
  | .commit f => takeOperation .commit twoCodes 1 f
  | .cancel f => takeOperation .commit twoCodes 2 f
  | .triggerWrite f => takeFrame .write .trigger f
  | .logRead f => takeFrame .read .log f
  | .clear f => takeFrame .write .events f
  | .masksWrite f => takeFrame .write .masks f
  | .clearFault f => takeOperation .fault twoCodes 1 f
  | .clearCounters f => takeOperation .fault twoCodes 2 f
  | .unservedWrite c f => takeFrame .write c.toClass f
  | .frameCutShort c => cutShort c
  | .badCheck d c f => takeBadCheck d c f

/-- While no reset lasts, a command that is none of the three has its effect. -/
theorem exec_running {c : Instr} {s : State} (hrun : s.phase = .running) (hc : resetCommand c = false) :
    exec c s = .next (effect c s) := by
  cases c with
  | powerOnReset | pinReset | resetEnd _ => simp [resetCommand] at hc
  | strayBeatDiscard _ => rfl
  | _ => exact whileRunning_running hrun

/-- While a reset lasts, such a command leaves the state as it is (R19, R150, R165). -/
theorem exec_inReset {c : Instr} {s : State} {r : ResetCause} (hreset : s.phase = .inReset r)
    (hc : resetCommand c = false) : exec c s = .next s := by
  cases c with
  | powerOnReset | pinReset | resetEnd _ => simp [resetCommand] at hc
  | strayBeatDiscard _ => rfl
  | _ => exact whileRunning_inReset hreset

/-- What the three reset commands do. -/
inductive ResetEvent (c : Instr) (s : State) : State → Prop
  | powerOn (hc : c = .powerOnReset) : ResetEvent c s (heldInReset .powerOn Faults.reset s)
  | pin (hc : c = .pinReset) : ResetEvent c s (heldInReset .pin s.faults s)
  | ends (p : Straps) (cause : ResetCause) (hc : c = .resetEnd p) (hphase : s.phase = .inReset cause) :
      ResetEvent c s (leaveReset cause p s)

/-- Whatever a command is, it answers a next state: the state itself, its effect while no reset lasts, or what a reset
command leaves. -/
theorem exec_cases (c : Instr) (s : State) :
    exec c s = .next s ∨ (s.phase = .running ∧ exec c s = .next (effect c s)) ∨
      ∃ t, ResetEvent c s t ∧ exec c s = .next t := by
  cases hc : resetCommand c with
  | false =>
    cases hs : s.phase with
    | running => exact .inr (.inl ⟨rfl, exec_running hs hc⟩)
    | inReset r => exact .inl (exec_inReset hs hc)
  | true =>
    cases c with
    | powerOnReset => exact .inr (.inr ⟨_, .powerOn rfl, rfl⟩)
    | pinReset =>
      rcases hs : s.phase with _ | (_ | _) <;> simp only [exec, execPinReset, hs]
      · exact .inr (.inr ⟨_, .pin rfl, rfl⟩)
      · exact .inl trivial
      · exact .inr (.inr ⟨_, .pin rfl, rfl⟩)
    | resetEnd p =>
      cases hs : s.phase with
      | running => exact .inl (by simp only [exec, execResetEnd, hs])
      | inReset r => exact .inr (.inr ⟨_, .ends p r rfl hs, by simp only [exec, execResetEnd, hs]⟩)
    | _ => simp [resetCommand] at hc

/-! ## The checks behind a disposition -/

/-- `j` is what checks 4 to 6 hand on for the well-formed request `r` whose tag does not clash (R7 to R10). -/
def Judged.Of (r : Request) (s : State) (j : Judged) : Prop :=
  ∃ m p, s.mode = .operating m ∧ wellFormedRequest r = some p ∧ clashes p.tag s = false ∧
    j = judged m p (classifyIn m p s) s

/-- What stands behind each decision of an evaluation (R7 to R12). -/
inductive Decided (r : Request) (s : State) : Decision → Prop
  | stall : Decided r s .stall
  | malformed (hform : wellFormedRequest r = none) (hslot : slotFree s = true) : Decided r s .malformed
  | clash (p : Passage) (hform : wellFormedRequest r = some p) (hslot : slotFree s = true) : Decided r s (.clash p)
  | forward (j : Judged) (t : DownTag) (hj : j.Of r s) (htag : lowestFree s = some t) (hchannel : s.downRequest = none)
      (horder : hasHeld j.req.requester s = false) : Decided r s (.forward j t)
  | hold (j : Judged) (c : Cause) (hj : j.Of r s) (hroom : hasRoom j.req s = true) : Decided r s (.hold j c)
  | refuse (j : Judged) (st : Status) (hj : j.Of r s) (hslot : slotFree s = true) : Decided r s (.refuse j st)

/-- A hold or a full action stands on room or a slot (R12, R95). -/
theorem decided_holdOrFull {r : Request} {s : State} {j : Judged} (hj : j.Of r s) (c : Cause) :
    Decided r s (holdOrFull j c s) := by
  rcases holdOrFull_cases j c s with ⟨hroom, h⟩ | ⟨-, -, hslot, h⟩ | ⟨-, -, h⟩ <;> rw [h]
  · exact .hold j c hj hroom
  · exact .refuse j _ hj hslot
  · exact .stall

/-- Check 7 leaves an intended forward only to a requester with nothing held (R80). -/
theorem orderIntent_forward {p : Passage} {s : State} {i : Intent} (h : orderIntent p s i = .forward) :
    i = .forward ∧ hasHeld p.requester s = false := by
  cases i with
  | forward => simpa [orderIntent] using h
  | hold c => simp [orderIntent] at h
  | refuse st => simp [orderIntent] at h

/-- A malformed request is refused when a slot is free (R8). -/
theorem evaluate_malformed {r : Request} {s : State} {m : Mode} (hm : s.mode = .operating m)
    (hform : wellFormedRequest r = none) : evaluate r s = ifSlot s .malformed := by
  simp only [evaluate, hm, hform]

/-- A well-formed request is refused for its tag, or meets checks 4 to 9 (R9). -/
theorem evaluate_formed {r : Request} {s : State} {m : Mode} {p : Passage} (hm : s.mode = .operating m)
    (hform : wellFormedRequest r = some p) :
    evaluate r s = if clashes p.tag s then ifSlot s (.clash p) else evaluateIn m p s := by
  simp only [evaluate, hm, hform]

/-- Checks 8 and 9 stand on what they need, once check 7 has been met (R11, R12, R80). -/
theorem decided_evaluateIn {r : Request} {s : State} {m : Mode} {p : Passage}
    (hj : (judged m p (classifyIn m p s) s).Of r s) : Decided r s (evaluateIn m p s) := by
  unfold evaluateIn
  cases hi : orderIntent p s (policyIntent m (classifyIn m p s) s) with
  | forward =>
    rcases forwardOrWait_cases (judged m p (classifyIn m p s) s) s with
      ⟨t, htag, hch, -, h⟩ | ⟨t, -, -, h⟩ | ⟨-, h⟩ <;> simp only [settle, hi, h]
    · exact .forward _ t hj htag hch (orderIntent_forward hi).2
    · exact .stall
    · exact decided_holdOrFull hj _
  | hold c => simp only [settle, hi]; exact decided_holdOrFull hj c
  | refuse st =>
    rcases ifSlot_cases s (.refuse (judged m p (classifyIn m p s) s) st) with ⟨hslot, h⟩ | ⟨-, h⟩ <;>
      simp only [settle, hi, h]
    · exact .refuse _ st hj hslot
    · exact .stall

/-- Every evaluation is decided as `Decided` says. -/
theorem evaluate_decided (r : Request) (s : State) : Decided r s (evaluate r s) := by
  by_cases hstall : evaluate r s = .stall
  · exact hstall ▸ .stall
  obtain ⟨m, hm⟩ := evaluate_operating hstall
  cases hform : wellFormedRequest r with
  | none =>
    rw [evaluate_malformed hm hform]
    rcases ifSlot_cases s .malformed with ⟨hslot, h⟩ | ⟨-, h⟩ <;> rw [h]
    · exact .malformed hform hslot
    · exact .stall
  | some p =>
    rw [evaluate_formed hm hform]
    by_cases hcl : clashes p.tag s = true
    · rw [if_pos hcl]
      rcases ifSlot_cases s (.clash p) with ⟨hslot, h⟩ | ⟨-, h⟩ <;> rw [h]
      · exact .clash p hform hslot
      · exact .stall
    · rw [if_neg hcl]
      exact decided_evaluateIn ⟨m, p, hm, hform, Bool.eq_false_of_not_eq_true hcl, rfl⟩

end Sys2Proof.Machine
end

section
/-! What a frame cut short leaves (R169), and what a frame's judgement leaves but for the port (R165 to R168). -/

namespace Sys2Proof.Machine

/-! ## The port before a check byte -/

/-- The state with its port replaced. -/
def setPort (p : Port) (s : State) : State := { s with port := p }

/-- A replaced port, field by field. -/
@[simp] theorem setPort_fields (p : Port) (s : State) :
    (setPort p s).phase = s.phase ∧ (setPort p s).timebase = s.timebase ∧ (setPort p s).offered = s.offered ∧
      (setPort p s).downRequest = s.downRequest ∧ (setPort p s).downResponse = s.downResponse ∧
      (setPort p s).upResponse = s.upResponse ∧ (setPort p s).localQueue = s.localQueue ∧
      (setPort p s).turn = s.turn ∧ (setPort p s).rules = s.rules ∧ (setPort p s).lanes = s.lanes ∧
      (setPort p s).gens = s.gens ∧ (setPort p s).hold = s.hold ∧ (setPort p s).tags = s.tags ∧
      (setPort p s).triggers = s.triggers ∧ (setPort p s).log = s.log ∧ (setPort p s).events = s.events ∧
      (setPort p s).faults = s.faults ∧ (setPort p s).mode = s.mode ∧ (setPort p s).resume = s.resume ∧
      (setPort p s).quiesceTimer = s.quiesceTimer ∧ (setPort p s).limits = s.limits ∧
      (setPort p s).straps = s.straps ∧ (setPort p s).resetCause = s.resetCause ∧ (setPort p s).port = p ∧
      (setPort p s).scanDue = s.scanDue ∧ (setPort p s).evalDue = s.evalDue ∧
      (setPort p s).pending = s.pending := by
  and_intros <;> rfl

/-- Chip-select falls, and the port waits for the header. -/
theorem portFall_running {s : State} (hrun : s.phase = .running) :
    portFall s = setPort { Port.idle with state := .header } s := by
  simp only [portFall, hrun, setPort]

/-- `u` is `s` but for the port. -/
def PortOnly (s u : State) : Prop := u = setPort u.port s

/-- The port alone is written by a write of the port. -/
theorem portOnly_setPort (p : Port) (s : State) : PortOnly s (setPort p s) := rfl

/-- Chip-select rises, and whatever the port has become is dropped (R165). -/
theorem PortOnly.rise {s u : State} (h : PortOnly s u) : portRise u = setPort Port.idle s := by
  rw [PortOnly] at h
  rw [h]
  rfl

/-- A byte other than a check byte writes the port alone (R165). -/
theorem portByte_portOnly {b : Byte} {s : State} (h : s.port.state ≠ .check) : PortOnly s (portByte b s) := by
  unfold PortOnly portByte
  cases hs : s.port.state with
  | idle | payload | reply => rfl
  | header =>
    simp only [headerByteTaken]
    split
    · split <;> rfl
    · rfl
    · rfl
  | check => exact absurd hs h

/-- Two such changes together are one. -/
theorem PortOnly.trans {s u v : State} (h : PortOnly s u) (h' : PortOnly u v) : PortOnly s v := by
  unfold PortOnly at *
  rw [h', h]
  rfl

/-- Fewer bytes than the payload length leave the payload, and as many bring the check byte next (R165). -/
theorem portBytes_payload {bs : List Byte} {s : State} (hstate : s.port.state = .payload)
    (hlen : bs.length ≤ s.port.expect) : PortOnly s (portBytes bs s) := by
  induction bs generalizing s with
  | nil => rfl
  | cons b bs ih =>
    have hb : PortOnly s (portByte b s) := portByte_portOnly (by simp [hstate])
    refine hb.trans ?_
    show PortOnly (portByte b s) (portBytes bs (portByte b s))
    have hport : portByte b s = payloadByteTaken b s := by simp only [portByte, hstate]
    rw [hport]
    simp only [List.length_cons] at hlen
    cases bs with
    | nil => rfl
    | cons b' bs' =>
      simp only [List.length_cons] at hlen
      apply ih
      · simp only [payloadByteTaken]; rw [if_neg (by omega)]
      · simp only [payloadByteTaken, List.length_cons]; omega

/-- The port after the three header bytes of a frame that is received (R163, R165). -/
def headerPort (b0 b1 b2 : Byte) : Port :=
  { state := if b2 = 0 then .check else .payload, header := [b0, b1, b2], expect := b2.toNat, buffer := [],
    check := crc8 [b0, b1, b2], reply := [] }

/-- Byte 0 decides whether the frame is received; one that is not is ignored to its end (R165, R166). -/
theorem portByte_first {b0 : Byte} {s : State} (hrun : s.phase = .running) :
    portByte b0 (portFall s) = setPort (if receives (channelOf b0) (directionOf b0) s then
      { Port.idle with state := .header, header := [b0], check := crc8 [b0] } else Port.idle) s := by
  rw [portFall_running hrun]
  change (if receives (channelOf b0) (directionOf b0) s then _ else _) = _
  split <;> rfl

/-- The three header bytes together. -/
theorem portBytes_header {b0 b1 b2 : Byte} {s : State} (hrun : s.phase = .running) :
    portBytes [b0, b1, b2] (portFall s) =
      setPort (if receives (channelOf b0) (directionOf b0) s then headerPort b0 b1 b2 else Port.idle) s := by
  change portByte b2 (portByte b1 (portByte b0 (portFall s))) = _
  rw [portByte_first hrun]
  split <;> rfl

/-- Bytes that complete one after another, cut in two. -/
theorem portBytes_append (bs bs' : List Byte) (s : State) :
    portBytes (bs ++ bs') s = portBytes bs' (portBytes bs s) := List.foldl_append

/-- The bytes before a check byte write the port alone (R165, R169). -/
theorem portBytes_beforeCheck {bs : List Byte} {s : State} (hrun : s.phase = .running) (h : beforeCheck bs = true) :
    PortOnly s (portBytes bs (portFall s)) := by
  have hfall : PortOnly s (portFall s) := by rw [portFall_running hrun]; rfl
  match bs with
  | [] => exact hfall
  | [b0] => rw [show portBytes [b0] (portFall s) = portByte b0 (portFall s) from rfl, portByte_first hrun]; rfl
  | [b0, b1] =>
    rw [show portBytes [b0, b1] (portFall s) = portByte b1 (portByte b0 (portFall s)) from rfl, portByte_first hrun]
    refine (portOnly_setPort _ s).trans (portByte_portOnly ?_)
    dsimp only
    split <;> simp [Port.idle]
  | b0 :: b1 :: b2 :: rest =>
    have hlen : rest.length ≤ b2.toNat := by simpa [beforeCheck] using h
    rw [show b0 :: b1 :: b2 :: rest = [b0, b1, b2] ++ rest from rfl, portBytes_append, portBytes_header hrun]
    split
    · by_cases hb : b2 = 0
      · have hrest : rest = [] := by simpa [hb] using hlen
        rw [hrest]; rfl
      · exact (portOnly_setPort _ s).trans (portBytes_payload (if_neg hb) hlen)
    · rw [portBytes_idle (by simp [Port.idle])]; rfl

/-- A byte in REPLY shifts one reply byte out (R165). -/
theorem portByte_reply {b : Byte} {s : State} (h : s.port.state = .reply) :
    portByte b s = setPort { s.port with reply := s.port.reply.drop 1 } s := by
  simp only [portByte, h, setPort]

/-- Bytes in REPLY shift the reply out and write the port alone (R165). -/
theorem portBytes_reply {bs : List Byte} {s : State} (h : s.port.state = .reply) :
    portBytes bs s = setPort { s.port with reply := s.port.reply.drop bs.length } s := by
  induction bs generalizing s with
  | nil => rfl
  | cons b bs ih =>
    change portBytes bs (portByte b s) = _
    have hnext : (portByte b s).port.state = .reply := by rw [portByte_reply h]; exact h
    rw [ih hnext, portByte_reply h]
    simp [setPort]

/-- A cut within the frame, before its check byte, leaves the port IDLE (R169). -/
theorem cutShort_inFrame {bits : List Bool} {s : State} (hrun : s.phase = .running)
    (h : beforeCheck (bytesOfBits bits) = true) : cutShort (.inFrame bits) s = setPort Port.idle s := by
  simp only [cutShort, h]
  exact (portBytes_beforeCheck hrun h).rise

/-- A cut within a reply leaves the port IDLE (R169). -/
theorem cutShort_inReply {clocks : Nat} {s : State} (h : s.port.state = .reply) :
    cutShort (.inReply clocks) s = setPort Port.idle s := by
  simp only [cutShort, h]
  rw [portBytes_reply h]
  rfl

/-- A cut leaves the port IDLE, or changes nothing (R169; log 12). -/
theorem cutShort_cases (c : Cut) {s : State} (hrun : s.phase = .running) :
    cutShort c s = s ∨ cutShort c s = setPort Port.idle s := by
  cases c with
  | inFrame bits =>
    by_cases h : beforeCheck (bytesOfBits bits) = true
    · exact .inr (cutShort_inFrame hrun h)
    · exact .inl (by simp only [cutShort, h]; rfl)
  | inReply clocks =>
    by_cases h : s.port.state = .reply
    · exact .inr (cutShort_inReply h)
    · exact .inl (by simp only [cutShort, h, if_false])

/-- Every byte takes eight bits (R162). -/
theorem bytesOfBits_length (bits : List Bool) : 8 * (bytesOfBits bits).length ≤ bits.length := by
  induction bits using bytesOfBits.induct with
  | case1 b7 b6 b5 b4 b3 b2 b1 b0 rest ih => simp only [bytesOfBits, List.length_cons]; omega
  | case2 bits h => simp [bytesOfBits]

/-- Fewer than three bytes end before any check byte (R163). -/
theorem beforeCheck_of_length {bs : List Byte} (h : bs.length < 3) : beforeCheck bs = true := by
  match bs with
  | [] | [_] | [_, _] => rfl
  | _ :: _ :: _ :: _ => simp at h; omega

/-- Settles O59: each kind of cut comes before the check byte, and the bytes before it write the port alone. -/
theorem frameCutShortIsDiscarded : Obligations.FrameCutShortIsDiscarded := by
  unfold Obligations.FrameCutShortIsDiscarded
  intro s hrun
  have hcut : ∀ bits, beforeCheck (bytesOfBits bits) = true →
      exec (.frameCutShort (.inFrame bits)) s = .next (setPort Port.idle s) := by
    intro bits h
    rw [exec_running hrun rfl]
    exact congrArg _ (cutShort_inFrame hrun h)
  refine ⟨fun bits hlen => hcut bits ?_, fun bits b0 b1 b2 rest hbytes hlen => hcut bits ?_, fun clocks hreply => ?_⟩
  · have hbytes := bytesOfBits_length bits
    exact beforeCheck_of_length (by omega)
  · simpa [hbytes, beforeCheck] using hlen
  · rw [exec_running hrun rfl]
    exact congrArg _ (cutShort_inReply hreply)

end Sys2Proof.Machine
end

section
/-! Management frames (R165 to R171): which are received, what their judgement answers, and what a served one leaves. -/

namespace Sys2Proof.Machine

/-! ## Received frames and their answers -/

/-- The port's own test of a frame's address is that of R166 and R167. -/
theorem receives_iff {f : Frame} {d : Direction} {s : State} :
    receives f.channel d s = true ↔ f.Addressed s ∨ (f.channel = 7 ∧ d = .write) := by
  simp [receives, addressed, broadcast]

/-- A received frame is received by the port's own test. -/
theorem Received.receives {f : Frame} {d : Direction} {s : State} (h : f.Received d s) :
    receives f.channel d s = true := receives_iff.mpr h.2

/-- A frame that is not received, while no reset lasts, is not received by the port's own test. -/
theorem receives_eq_false {f : Frame} {d : Direction} {s : State} (hrun : s.phase = .running)
    (h : ¬ f.Received d s) : receives f.channel d s = false :=
  Bool.eq_false_iff.mpr fun hr => h ⟨hrun, receives_iff.mp hr⟩

/-- What concludes a received frame is its answer: the status and the payload, or nothing after a broadcast (R167). -/
theorem conclude_received {f : Frame} {d : Direction} {s : State} (h : f.Received d s) (a : Answer) :
    conclude (addressed f.channel s) a = State.answered f a.status a.payload a.state := by
  have hport : portAfter (addressed f.channel s) a = replyPort f a.status a.payload := by
    unfold replyPort portAfter
    by_cases h7 : f.channel = 7
    · simp [addressed, h7]
    · obtain ⟨-, ⟨hch, -⟩ | ⟨hch, -⟩⟩ := h
      · simp [addressed, hch ▸ h7, hch, replyBytes]
      · exact absurd hch h7
  rw [conclude, hport]
  rfl

/-- The frame's check verifies by the port's own test (R164). -/
theorem frameVerifies_iff {d : Direction} {c : ObjectClass} {f : Frame} :
    frameVerifies d c f = true ↔ f.Verifies d c := beq_iff_eq

/-- A frame whose check fails executes nothing and counts FRAME_CHECK (R168). -/
theorem takeFrame_badCheck {d : Direction} {c : ObjectClass} {f : Frame} {s : State} (h : f.Received d s)
    (hv : ¬ f.Verifies d c) :
    takeFrame d c f s = State.answered f .badCheck [] (countFault .frameCheck FaultDetails.none s) := by
  have hcheck : frameVerifies d c f = false := by rwa [← Bool.not_eq_true, frameVerifies_iff]
  rw [takeFrame_received (Received.receives h), conclude_received h, hcheck]
  rfl

/-- A class that does not serve the direction, or an index out of range, is answered BAD_CLASS (R170). -/
theorem takeFrame_badClass {d : Direction} {c : ObjectClass} {f : Frame} {s : State} (h : f.Received d s)
    (hv : f.Verifies d c) (hc : (classServes d c && indexServes c f.index.toNat) = false) :
    takeFrame d c f s = State.answered f .badClass [] s := by
  rw [takeFrame_received (Received.receives h), conclude_received h, frameVerifies_iff.mpr hv]
  simp only [judgeFrame, hc]
  rfl

/-- A payload length that does not serve is answered BAD_LENGTH (R171). -/
theorem takeFrame_badLength {d : Direction} {c : ObjectClass} {f : Frame} {s : State} (h : f.Received d s)
    (hv : f.Verifies d c) (hc : (classServes d c && indexServes c f.index.toNat) = true)
    (hl : lengthServes d c f.payload.length = false) :
    takeFrame d c f s = State.answered f .badLength [] s := by
  rw [takeFrame_received (Received.receives h), conclude_received h, frameVerifies_iff.mpr hv]
  simp only [judgeFrame, hc, hl]
  rfl

/-- A payload whose length is served is kept whole (R163, R171). -/
theorem take_payload {d : Direction} {c : ObjectClass} {bs : List Byte} (hl : lengthServes d c bs.length = true) :
    bs.take Config.bufferCapacity = bs := by
  refine List.take_of_length_le (show bs.length ≤ 56 from ?_)
  cases d with
  | read => simp only [lengthServes, beq_iff_eq] at hl; omega
  | write =>
    cases c <;> simp only [lengthServes, writeLengthServes, beq_iff_eq, Bool.and_eq_true, decide_eq_true_eq,
      Bool.false_eq_true] at hl <;> omega

/-- A served frame meets its owning rule (R168). -/
theorem takeFrame_served {d : Direction} {c : ObjectClass} {f : Frame} {s : State} (h : f.Received d s)
    (hv : f.Verifies d c) (hc : classServes d c = true) (hi : indexServes c f.index.toNat = true)
    (hl : lengthServes d c f.payload.length = true) :
    takeFrame d c f s = State.answered f (ownerAnswer d c f.index.toNat f.payload s).status
      (ownerAnswer d c f.index.toNat f.payload s).payload (ownerAnswer d c f.index.toNat f.payload s).state := by
  rw [takeFrame_received (Received.receives h), conclude_received h, frameVerifies_iff.mpr hv, take_payload hl,
    judgeFrame_served hc hi hl]

/-! ## What a frame leaves, but for the port -/

/-- The state a judgement answers: nothing done, a failed check, or what the owning rule answers (R168). -/
theorem judgeFrame_state (verified : Bool) (d : Direction) (c : ObjectClass) (i : Nat) (bs : List Byte) (s : State) :
    let a := judgeFrame verified d c i bs.length (bs.take Config.bufferCapacity) s
    a.state = s ∨ (verified = false ∧ a.state = countFault .frameCheck FaultDetails.none s) ∨
      (verified = true ∧ classServes d c = true ∧ indexServes c i = true ∧ lengthServes d c bs.length = true ∧
        a.state = (ownerAnswer d c i bs s).state) := by
  cases verified with
  | false => exact .inr (.inl ⟨rfl, rfl⟩)
  | true =>
    cases hci : classServes d c && indexServes c i with
    | false => exact .inl (by simp only [judgeFrame, hci]; rfl)
    | true =>
      cases hl : lengthServes d c bs.length with
      | false => exact .inl (by simp only [judgeFrame, hci, hl]; rfl)
      | true =>
        obtain ⟨hc, hi⟩ := Bool.and_eq_true_iff.mp hci
        exact .inr (.inr ⟨rfl, hc, hi, rfl, by rw [take_payload hl, judgeFrame_served hc hi hl]⟩)

/-- After a frame the port keeps no payload byte. -/
theorem portAfter_buffer (answered : Bool) (a : Answer) : (portAfter answered a).buffer = [] := by
  unfold portAfter
  split <;> rfl

/-- The state a frame leaves, but for the port: nothing done, a failed check, or what its owning rule answers. -/
theorem takeFrame_cases (d : Direction) (c : ObjectClass) (f : Frame) (s : State) :
    ∃ p : Port, p.buffer = [] ∧
      (takeFrame d c f s = setPort p s ∨
        (frameVerifies d c f = false ∧ takeFrame d c f s = setPort p (countFault .frameCheck FaultDetails.none s)) ∨
        (frameVerifies d c f = true ∧ classServes d c = true ∧ indexServes c f.index.toNat = true ∧
          lengthServes d c f.payload.length = true ∧
          takeFrame d c f s = setPort p (ownerAnswer d c f.index.toNat f.payload s).state)) := by
  cases hr : receives f.channel d s with
  | false => exact ⟨Port.idle, rfl, .inl (takeFrame_other hr)⟩
  | true =>
    rw [takeFrame_received hr]
    have hstate := judgeFrame_state (frameVerifies d c f) d c f.index.toNat f.payload s
    generalize judgeFrame (frameVerifies d c f) d c f.index.toNat f.payload.length
      (f.payload.take Config.bufferCapacity) s = a at hstate
    have hconclude : conclude (addressed f.channel s) a = setPort (portAfter (addressed f.channel s) a) a.state := rfl
    rw [hconclude]
    refine ⟨_, portAfter_buffer (addressed f.channel s) a, ?_⟩
    rcases hstate with h | ⟨hv, h⟩ | ⟨hv, hc, hi, hl, h⟩ <;> rw [h]
    · exact .inl rfl
    · exact .inr (.inl ⟨hv, rfl⟩)
    · exact .inr (.inr ⟨hv, hc, hi, hl, rfl⟩)

end Sys2Proof.Machine
end

section
/-! Everything a command can do while no reset lasts, said once, with what each case rests on. The invariants are proved
case by case on `Event`. -/

namespace Sys2Proof.Machine

/-- The state an evaluation disposes of a taken request in: the channel is free for the next record (R6, R13). -/
def emptied (s : State) : State := { s with offered := none, evalDue := false }

/-- The state in which the response `h` stands at the head of the downstream response channel (R17). -/
def atHead (h : MemResponse) (s : State) : State := { s with downResponse := some h }

/-- What a management frame's owning rule, or its failed check, does but for the port (R168). -/
inductive Written (c : Instr) (s : State) : State → Prop
  | nothing : Written c s s
  | badCheck : Written c s (countFault .frameCheck FaultDetails.none s)
  | logRead (n : Nat) : Written c s { s with log := { s.log with records := s.log.records.drop n } }
  | sameMode (m : Mode) (hm : s.mode = .operating m) : Written c s { s with resume := m }
  | mode (m now : Mode) (hm : s.mode = .operating now) : Written c s (enter (.operating m) { s with resume := m })
  | quiesce (now : Mode) (hm : s.mode = .operating now) :
      Written c s (completeQuiesce (enter .quiescing { s with resume := now, quiesceTimer := some s.limits.quiesceLimit }))
  | resume (hm : s.mode = .quiescing ∨ s.mode = .quiesced) : Written c s (resumed s)
  | restart (back : Mode) (hm : s.mode = .operating back ∨ (s.mode = .quiesced ∧ s.resume = back)) :
      Written c s (restartFrom back s)
  | limits (f : Frame) (x : Limits) (hc : c = .limitsWrite f) (hx : decodeLimits f.payload = some x) :
      Written c s (bringEval { s with limits := x })
  | rule (f : Frame) (n : RuleId) (x : RuleEntry) (hc : c = .ruleWrite f) (hx : decodeRule f.payload = some x) :
      Written c s (bringEval { s with rules := s.rules.set n x })
  | staged (f : Frame) (l : LaneId) (x : LaneConfig) (hc : c = .laneStagedWrite f) (hx : decodeLane f.payload = some x) :
      Written c s (updateLane l (fun y => { y with staged := x }) s)
  | cleared (l : LaneId) : Written c s (updateLane l Lane.cleared s)
  | period (f : Frame) (g : Gen) (x : Nat) (hc : c = .periodWrite f) (hx : decodePeriod f.payload = some x) :
      Written c s (updateGen g (fun y => { y with stagedPeriod := x }) s)
  | commit (set : BitVec 4) : Written c s (commitGens set s)
  | cancel (set : BitVec 4) : Written c s (cancelGens set s)
  | trigger (f : Frame) (t : TriggerId) (x : Trigger) (hc : c = .triggerWrite f) (hx : decodeTrigger f.payload = some x) :
      Written c s { s with triggers := s.triggers.set t x }
  | clear (ps : List (Byte × Byte)) : Written c s { s with events := s.events.cleared ps }
  | masks (f : Frame) (ms : List Bool) (hc : c = .masksWrite f) : Written c s { s with events := s.events.masked ms }
  | clearFault (f : Frame) (hc : c = .clearFault f) : Written c s (clearRecord s)
  | clearCounters : Written c s (clearCounts s)

/-- What a command other than the three of a reset does, and what it rests on. -/
inductive Event (c : Instr) (s : State) : State → Prop
  | idle : Event c s s
  | stalled (r : Request) : Event c s { s with offered := some r, evalDue := false }
  | malformed (r : Request) (hslot : slotFree s = true) : Event c s (takeMalformed r (emptied s))
  | clash (r : Request) (p : Passage) (hslot : slotFree s = true) : Event c s (takeClash r p (emptied s))
  | forward (r : Request) (j : Judged) (t : DownTag) (hj : j.Of r s) (htag : lowestFree s = some t)
      (hchannel : s.downRequest = none) (horder : hasHeld j.req.requester s = false) :
      Event c s (takeForward j t (emptied s))
  | hold (r : Request) (j : Judged) (k : Cause) (hj : j.Of r s) (hroom : hasRoom j.req s = true) :
      Event c s (takeHold j k (emptied s))
  | refuse (r : Request) (j : Judged) (st : Status) (hj : j.Of r s) (hslot : slotFree s = true) :
      Event c s (takeRefuse j st (emptied s))
  | scans : Event c s (releaseScan s)
  | downTaken : Event c s (bringOn { s with downRequest := none })
  | leave (n : Nat) (e : HoldEntry) (r : HoldRefusal) (hold : oldestRefused s.hold = some n) (he : s.hold[n]? = some e)
      (hr : e.refusal = some r) (hslot : slotFree s = true) : Event c s (judgeDrained (leaveRefused n e r s))
  | aged (n : Nat) : Event c s (raise .holdAged (updateHeld n (fun x => { x with aged := true }) s))
  | forced (n : Nat) (e : HoldEntry) (he : s.hold[n]? = some e) : Event c s (expireForce n e s)
  | expired (n : Nat) (e : HoldEntry) (he : s.hold[n]? = some e) : Event c s (expireRefuse n e s)
  | deadline (t : DownTag) (f : Flight) (ht : s.tags[t] = .live f) (hzero : f.remaining = some 0) :
      Event c s (setTag t (.live { f with timeoutPending := true }) s)
  | timeout (t : DownTag) (f : Flight) (ht : s.tags[t] = .live f) (hslot : slotFree s = true) :
      Event c s (timeOut t f s)
  | waits (h : MemResponse) : Event c s (atHead h s)
  | relays (h : MemResponse) (f : Flight) (ht : s.tags[h.tag] = .live f) : Event c s (relay h f (atHead h s))
  | late (h : MemResponse) (f : Flight) (ht : s.tags[h.tag] = .orphaned f) : Event c s (returnOrphan h f (atHead h s))
  | unknown (h : MemResponse) (ht : s.tags[h.tag] = .free) : Event c s (discardUnknown h (atHead h s))
  | localSent (x : LocalResponse) (rest : List LocalResponse) (hq : s.localQueue = x :: rest) :
      Event c s (bringEval { s with
        upResponse := some { tag := x.tag, status := x.status, data := [], source := .localSide }
        localQueue := rest
        turn := .memorySide })
  | upTaken : Event c s (upstreamTaken s)
  | ticks (hc : c = .timebaseTick) (hdue : tickDue s = false) : Event c s (tick s)
  | expiry (g : Gen) (hc : c = .periodGeneratorExpiry g) (hdue : s.gens[g].expiring = true) : Event c s (expire g s)
  | quiesceForced (hdue : quiesceDue s = true) :
      Event c s (countFault .quiesceForced FaultDetails.none (withdrawAll { s with quiesceTimer := none }))
  | frame (p : Port) (u : State) (hp : p.buffer = []) (hu : Written c s u) : Event c s (setPort p u)

/-! ## The memory path -/

/-- A disposition, as the event it is (R13). -/
theorem event_dispose {c : Instr} {r : Request} {s : State} {d : Decision} (hd : Decided r s d) :
    Event c s (dispose r d { s with evalDue := false }) := by
  cases hd with
  | stall => exact .stalled r
  | malformed hform hslot => exact .malformed r hslot
  | clash p hform hslot => exact .clash r p hslot
  | forward j t hj htag hchannel horder => exact .forward r j t hj htag hchannel horder
  | hold j k hj hroom => exact .hold r j k hj hroom
  | refuse j st hj hslot => exact .refuse r j st hj hslot

/-- An evaluation is of the record at the head, when one is due (R6). -/
theorem event_evaluateHead (c : Instr) (r : Request) (s : State) : Event c s (evaluateHead r s) := by
  unfold evaluateHead
  split
  · exact event_dispose (evaluate_decided (headRequest r s) s)
  · exact .idle

/-- The claim of the oldest refusal pending entry (R94). -/
theorem event_queueOldestRefused (c : Instr) (s : State) : Event c s (queueOldestRefused s) := by
  unfold queueOldestRefused
  cases hn : oldestRefused s.hold with
  | none => exact .idle
  | some n =>
    obtain ⟨e, he, hr, -⟩ := oldestRefused_some hn
    obtain ⟨r, hr⟩ := Option.isSome_iff_exists.mp hr
    simp only [he, hr]
    split
    · exact .leave n e r hn he hr ‹_›
    · exact .idle

/-- The half-way warning (R90). -/
theorem event_ageHeld (c : Instr) (n : Nat) (s : State) : Event c s (ageHeld n s) := by
  unfold ageHeld
  cases s.hold[n]? with
  | none => exact .idle
  | some e =>
    dsimp only
    split
    · exact .aged n
    · exact .idle

/-- An expiry under one of the two actions (R91, R92). -/
theorem event_expireHeld {c : Instr} {action : ExpiryAction} {g : Nat → HoldEntry → State → State} {n : Nat} {s : State}
    (hg : ∀ e, s.hold[n]? = some e → Event c s (g n e s)) : Event c s (expireHeld action g n s) := by
  unfold expireHeld
  cases he : s.hold[n]? with
  | none => exact .idle
  | some e =>
    dsimp only
    split
    · exact hg e he
    · exact .idle

/-- A response deadline (R107). -/
theorem event_responseDeadline (c : Instr) (t : DownTag) (s : State) : Event c s (responseDeadline t s) := by
  unfold responseDeadline
  cases ht : s.tags[t] with
  | free | orphaned f => exact .idle
  | live f =>
    simp only
    split
    · next hdue =>
      refine .deadline t f ht ?_
      simpa [TagEntry.deadlineDue] using (Bool.and_eq_true_iff.mp hdue).2
    · exact .idle

/-- A response timeout (R108). -/
theorem event_responseTimeout (c : Instr) (t : DownTag) (s : State) : Event c s (responseTimeout t s) := by
  unfold responseTimeout
  cases ht : s.tags[t] with
  | free | orphaned f => exact .idle
  | live f =>
    simp only
    split
    · next hclaim => exact .timeout t f ht (Bool.and_eq_true_iff.mp hclaim).2
    · exact .idle

/-- A memory response, judged by its tag (R101). -/
theorem event_offerResponse (c : Instr) (m : MemResponse) (s : State) : Event c s (offerResponse m s) := by
  cases hrelay : relaying s with
  | true => rw [offerResponse_relaying hrelay]; exact .idle
  | false =>
    rw [offerResponse_head hrelay]
    change Event c s (judgeResponse (s.downResponse.getD m) (atHead (s.downResponse.getD m) s))
    generalize s.downResponse.getD m = h
    have htags : (atHead h s).tags = s.tags := rfl
    unfold judgeResponse
    rw [htags]
    cases ht : s.tags[h.tag] with
    | free => exact .unknown h ht
    | orphaned f => exact .late h f ht
    | live f =>
      dsimp only
      split
      · exact .relays h f ht
      · exact .waits h

/-- The local side's grant (R18). -/
theorem event_sendLocal (c : Instr) (s : State) : Event c s (sendLocal s) := by
  unfold sendLocal
  cases hq : s.localQueue with
  | nil => exact .idle
  | cons x rest =>
    dsimp only
    split
    · exact .localSent x rest hq
    · exact .idle

/-! ## Management frames -/

/-- A frame is an event when what its owning rule writes is one. -/
theorem event_takeFrame {i : Instr} {d : Direction} {c : ObjectClass} {f : Frame} {s : State}
    (howner : classServes d c = true → lengthServes d c f.payload.length = true →
      Written i s (ownerAnswer d c f.index.toNat f.payload s).state) : Event i s (takeFrame d c f s) := by
  obtain ⟨p, hp, h | ⟨-, h⟩ | ⟨-, hc, -, hl, h⟩⟩ := takeFrame_cases d c f s <;> rw [h]
  · exact .frame p _ hp .nothing
  · exact .frame p _ hp .badCheck
  · exact .frame p _ hp (howner hc hl)

/-- A frame of a shared class is an event when what it writes without spelling another row's operation is one. -/
theorem event_takeOperation {i : Instr} {c : ObjectClass} {listed : List Byte} {own : Byte} {f : Frame} {s : State}
    (howner : spellsOther listed own f = false → lengthServes .write c f.payload.length = true →
      Written i s (ownerWrite c f.index.toNat f.payload s).state) : Event i s (takeOperation c listed own f s) := by
  unfold takeOperation
  split
  · exact .idle
  · next hspell => exact event_takeFrame fun _ hl => howner (Bool.eq_false_of_not_eq_true hspell) hl

/-- A mode request in an operating mode is accepted (R151, R152). -/
theorem requestMode_operating {m now : Mode} {s : State} (hm : s.mode = .operating now) :
    requestMode m s =
      Answer.ok (if now = m then { s with resume := m } else enter (.operating m) { s with resume := m }) := by
  simp only [requestMode, hm]

/-- What a MODE write does (R151). -/
theorem written_mode (i : Instr) (b : Byte) (s : State) : Written i s (writeMode b s).state := by
  have hrequest : ∀ m, Written i s (requestMode m s).state := by
    intro m
    cases hm : s.mode with
    | operating now =>
      rw [requestMode_operating hm]
      split
      · next heq => exact .sameMode m (heq ▸ hm)
      · exact .mode m now hm
    | quiescing | quiesced | restarting => simp only [requestMode, hm]; exact .nothing
  unfold writeMode
  split_ifs
  · exact hrequest _
  · exact hrequest _
  · exact hrequest _
  · unfold requestQuiesce
    cases hm : s.mode with
    | operating now => exact .quiesce now hm
    | quiescing | quiesced | restarting => exact .nothing
  · unfold requestResume
    cases hm : s.mode with
    | quiescing => exact .resume (.inl hm)
    | quiesced => exact .resume (.inr hm)
    | operating m => exact .nothing
    | restarting => exact .nothing
  · unfold requestRestart
    cases hm : s.mode with
    | operating now => exact .restart now (.inl hm)
    | quiesced => exact .restart s.resume (.inr ⟨hm, rfl⟩)
    | quiescing | restarting => exact .nothing
  · exact .nothing

/-- What a COMMIT write does (R68, R69). -/
theorem written_commit (i : Instr) (op b : Byte) (s : State) : Written i s (writeCommit op b s).state := by
  unfold writeCommit requestCommit requestCancel
  split_ifs
  · exact .nothing
  · exact .commit _
  · exact .nothing
  · exact .cancel _
  · exact .nothing
  · exact .nothing

/-- What an EVENTS write does (R139). -/
theorem written_events (i : Instr) (bs : List Byte) (s : State) : Written i s (writeEvents bs s).state := by
  unfold writeEvents
  split
  · exact .clear _
  · exact .nothing

/-- A payload of one byte that does not spell another row's operation: the row's own code, or an unlisted one (log 11). -/
theorem ownCode_of_spellsOther {listed : List Byte} {own : Byte} {f : Frame} (hl : f.payload.length = 1)
    (h : spellsOther listed own f = false) : f.payload.getD 0 0 = own ∨ f.payload.getD 0 0 ∉ listed := by
  match hp : f.payload with
  | [b] =>
    simp only [spellsOther, hp, Bool.and_eq_false_iff, bne_eq_false_iff_eq, List.contains_eq_mem,
      decide_eq_false_iff_not] at h
    simpa [or_comm] using h
  | [] | _ :: _ :: _ => simp [hp] at hl

/-- What a CLEAR_FAULT frame writes (R145). -/
theorem written_clearFault {f : Frame} (s : State) :
    Written (.clearFault f) s (writeFault (f.payload.getD 0 0) s).state := by
  unfold writeFault
  split_ifs
  · exact .clearFault f rfl
  · exact .clearCounters
  · exact .nothing

/-- What a CLEAR_COUNTERS frame writes: it never spells CLEAR_FAULT (R142; log 11). -/
theorem written_clearCounters {f : Frame} (s : State) (hl : f.payload.length = 1)
    (h : spellsOther twoCodes 2 f = false) : Written (.clearCounters f) s (writeFault (f.payload.getD 0 0) s).state := by
  have hb : f.payload.getD 0 0 ≠ 1 := by
    rcases ownCode_of_spellsOther hl h with hb | hb
    · rw [hb]; decide
    · exact fun hone => hb (hone ▸ by decide)
  unfold writeFault
  rw [if_neg hb]
  split
  · exact .clearCounters
  · exact .nothing

/-- Every command that is none of a reset's is an event. -/
theorem event_effect {c : Instr} {s : State} (hrun : s.phase = .running) : Event c s (effect c s) := by
  cases c with
  | requestTaken r => exact event_evaluateHead _ r s
  | strayBeatDiscard b => exact .idle
  | releaseScan => simp only [effect, scanIfDue]; split <;> [exact .scans; exact .idle]
  | downstreamRequestTaken => simp only [effect, downstreamTaken]; split <;> [exact .idle; exact .downTaken]
  | refusalPendingQueued => exact event_queueOldestRefused _ s
  | holdAged n => exact event_ageHeld _ n s
  | holdExpiryForce n => exact event_expireHeld fun e he => .forced n e he
  | holdExpiryRefuse n => exact event_expireHeld fun e he => .expired n e he
  | responseDeadline t => exact event_responseDeadline _ t s
  | responseTimeout t => exact event_responseTimeout _ t s
  | responseRelay m | orphanReturn m | unknownResponse m => exact event_offerResponse _ m s
  | localResponseSent => exact event_sendLocal _ s
  | upstreamResponseTaken => exact .upTaken
  | timebaseTick =>
    simp only [effect, tickIfClear]
    split
    · exact .idle
    · exact .ticks rfl (Bool.eq_false_of_not_eq_true ‹_›)
  | periodGeneratorExpiry g => simp only [effect, expireIfDue]; split <;> [exact .expiry g rfl ‹_›; exact .idle]
  | quiesceForced => simp only [effect, forceQuiesce]; split <;> [exact .quiesceForced ‹_›; exact .idle]
  | powerOnReset | pinReset | resetEnd p => exact .idle
  | modeBypass f | modeMonitor f | modeGovern f | quiesce f | resume f | restart f =>
    exact event_takeOperation fun _ _ => written_mode _ _ s
  | limitsWrite f =>
    refine event_takeFrame fun _ _ => ?_
    simp only [ownerAnswer, ownerWrite, writeLimits]
    split <;> [exact .nothing; exact .limits f _ rfl ‹_›]
  | ruleWrite f =>
    refine event_takeFrame fun _ _ => ?_
    simp only [ownerAnswer, ownerWrite, writeRule]
    split <;> [exact .nothing; exact .rule f _ _ rfl ‹_›]
  | laneStagedWrite f =>
    refine event_takeFrame fun _ _ => ?_
    simp only [ownerAnswer, ownerWrite, writeStaged]
    split <;> [exact .nothing; exact .staged f _ _ rfl ‹_›]
  | laneLiveWrite f => exact event_takeFrame fun _ _ => .cleared _
  | periodWrite f =>
    refine event_takeFrame fun _ _ => ?_
    simp only [ownerAnswer, ownerWrite, writePeriod]
    split <;> [exact .nothing; exact .period f _ _ rfl ‹_›]
  | commit f | cancel f => exact event_takeOperation fun _ _ => written_commit _ _ _ s
  | triggerWrite f =>
    refine event_takeFrame fun _ _ => ?_
    simp only [ownerAnswer, ownerWrite, writeTrigger]
    split <;> [exact .nothing; exact .trigger f _ _ rfl ‹_›]
  | logRead f => exact event_takeFrame fun _ _ => .logRead _
  | clear f => exact event_takeFrame fun _ _ => written_events _ _ s
  | masksWrite f =>
    refine event_takeFrame fun _ _ => ?_
    simp only [ownerAnswer, ownerWrite, writeMasks]
    split <;> [exact .nothing; exact .masks f _ rfl]
  | clearFault f => exact event_takeOperation fun _ _ => written_clearFault s
  | clearCounters f =>
    exact event_takeOperation fun hspell hl => written_clearCounters s
      (by simpa [lengthServes, writeLengthServes] using hl) hspell
  | unservedWrite k f =>
    refine event_takeFrame fun hserved _ => ?_
    cases k <;> simp [UnservedClass.toClass, classServes] at hserved
  | frameCutShort k =>
    rcases cutShort_cases k hrun with h | h <;> simp only [effect, h]
    · exact .idle
    · exact .frame Port.idle s rfl .nothing
  | badCheck d k f =>
    simp only [effect, takeBadCheck]
    split
    · exact .idle
    · next hv =>
      obtain ⟨p, hp, h | ⟨-, h⟩ | ⟨hv', -⟩⟩ := takeFrame_cases d k f s
      · rw [h]; exact .frame p _ hp .nothing
      · rw [h]; exact .frame p _ hp .badCheck
      · exact absurd hv' hv

/-! ## What a step can do -/

/-- Everything a command can do. -/
theorem exec_next_cases {c : Instr} {s t : State} (h : exec c s = .next t) :
    t = s ∨ (s.phase = .running ∧ Event c s t) ∨ ResetEvent c s t := by
  rcases exec_cases c s with he | ⟨hrun, he⟩ | ⟨u, hu, he⟩ <;> rw [he] at h <;> cases h
  · exact .inl rfl
  · exact .inr (.inl ⟨hrun, event_effect hrun⟩)
  · exact .inr (.inr hu)

/-- A property of states that does not look at the command queue is kept by every step, when every event and every
reset keeps it. -/
theorem step_keeps {P : State → Prop} (hqueue : ∀ (s : State) (q : List Instr), P s → P { s with pending := q })
    (hevent : ∀ (c : Instr) (s t : State), s.phase = .running → P s → Event c s t → P t)
    (hreset : ∀ (c : Instr) (s t : State), P s → ResetEvent c s t → P t) (s t : State) (hs : P s)
    (hstep : step s = .next t) : P t := by
  unfold step at hstep
  split at hstep
  · cases hstep; exact hs
  · next c rest hq =>
    have hs' := hqueue s rest hs
    rcases exec_next_cases hstep with rfl | ⟨hrun, h⟩ | h
    · exact hs'
    · exact hevent c _ t hrun hs' h
    · exact hreset c _ t hs' h

end Sys2Proof.Machine
end

section
/-! Credit, formula by formula: what a charge, a grant, the live counts, a hold or a refusal counted, and a replenishment
leave in every lane and in the Event Unit (chapter 3). -/

namespace Sys2Proof.Machine

/-! ## Raises with a member (R134) -/

/-- The Event Unit after a raise of WATERMARK with lane `l`. -/
def Events.withWatermark (l : LaneId) (e : Events) : Events :=
  { e.raise .watermark with watermarkLanes := e.watermarkLanes ||| BitVec.twoPow 16 l }

/-- The Event Unit after a raise of EXHAUSTED with lane `l`. -/
def Events.withExhausted (l : LaneId) (e : Events) : Events :=
  { e.raise .exhausted with exhaustedLanes := e.exhaustedLanes ||| BitVec.twoPow 16 l }

/-- The Event Unit after a raise of COMMIT_DONE with generator `g`. -/
def Events.withCommitDone (g : Gen) (e : Events) : Events :=
  { e.raise .commitDone with commitGens := e.commitGens ||| BitVec.twoPow 4 g }

/-- What the three raises leave in the Event Unit. -/
@[simp] theorem raiseMember_events (l : LaneId) (g : Gen) (s : State) :
    (raiseWatermark l s).events = s.events.withWatermark l ∧ (raiseExhausted l s).events = s.events.withExhausted l ∧
      (raiseCommitDone g s).events = s.events.withCommitDone g := ⟨rfl, rfl, rfl⟩

/-! ## WATERMARK and EXHAUSTED (R50, R51) -/

/-- WATERMARK noted, lane by lane: the flag of a lane at its watermark is set (R50). -/
theorem noteWatermark_lane (l k : LaneId) (s : State) :
    (noteWatermark l s).lanes[k] = { s.lanes[k] with
      watermarkReached := s.lanes[k].watermarkReached || (decide (k = l) && s.lanes[k].atWatermark) } := by
  rcases noteWatermark_cases l s with ⟨hat, hclear, h⟩ | ⟨hor, h⟩ <;> rw [h]
  · have hlanes : ∀ x, (raiseWatermark l x).lanes = x.lanes := fun _ => rfl
    rw [hlanes, updateLane_lane]
    by_cases hk : k = l
    · subst hk; simp [hat, -Fin.getElem_fin]
    · simp [hk, -Fin.getElem_fin]
  · have hflag : (s.lanes[k].watermarkReached || (decide (k = l) && s.lanes[k].atWatermark)) =
        s.lanes[k].watermarkReached := by
      by_cases hk : k = l
      · subst hk; rcases hor with h | h <;> rw [h] <;> simp
      · simp [hk, -Fin.getElem_fin]
    rw [hflag]

/-- WATERMARK noted, in the Event Unit (R50). -/
theorem noteWatermark_events (l : LaneId) (s : State) :
    (noteWatermark l s).events =
      if s.lanes[l].atWatermark && !s.lanes[l].watermarkReached then s.events.withWatermark l else s.events := by
  unfold noteWatermark
  split <;> rfl

/-- EXHAUSTED noted, in the Event Unit (R51). -/
theorem noteExhausted_events (l : LaneId) (s : State) :
    (noteExhausted l s).events = if s.lanes[l].exhausted then s.events else s.events.withExhausted l := by
  unfold noteExhausted
  split <;> rfl

/-! ## The charge (R47 to R51) -/

/-- A lane after a charge, its period flags included (R47 to R51). -/
def Lane.afterCharge (cost : Nat) (x : Lane) : Lane :=
  { x.charged cost with
    watermarkReached := x.watermarkReached || (x.charged cost).atWatermark
    exhausted := x.exhausted || !x.hasCredit }

/-- A lane of a charge, before WATERMARK is noted. -/
theorem charge_tested_lane (l k : LaneId) (cost : Nat) (s : State) :
    (if s.lanes[l].hasCredit then updateLane l (Lane.charged cost) s
      else noteExhausted l (updateLane l (Lane.charged cost) s)).lanes[k] =
      if k = l then { s.lanes[l].charged cost with exhausted := s.lanes[l].exhausted || !s.lanes[l].hasCredit }
      else s.lanes[k] := by
  cases hcredit : s.lanes[l].hasCredit with
  | true =>
    rw [if_pos rfl, updateLane_lane]
    simp [Lane.charged, -Fin.getElem_fin]
  | false =>
    rw [if_neg Bool.false_ne_true, noteExhausted_lane, updateLane_lane]
    by_cases hk : k = l <;> simp [hk, Lane.charged, -Fin.getElem_fin]

/-- A charge, lane by lane. -/
theorem charge_lane (l k : LaneId) (cost : Nat) (s : State) :
    (charge l cost s).lanes[k] = if k = l then s.lanes[l].afterCharge cost else s.lanes[k] := by
  simp only [charge, noteWatermark_lane, charge_tested_lane]
  by_cases hk : k = l
  · simp only [hk, if_true, decide_true, Bool.true_and]; rfl
  · simp only [hk, if_false, decide_false, Bool.false_and, Bool.or_false]

/-- The Event Unit after a charge on lane `l`, which stood as `x`: EXHAUSTED first, then WATERMARK, each once a period
(R50, R51). -/
def Events.afterCharge (l : LaneId) (cost : Nat) (x : Lane) (e : Events) : Events :=
  let noted := if x.hasCredit || x.exhausted then e else e.withExhausted l
  if (x.charged cost).atWatermark && !x.watermarkReached then noted.withWatermark l else noted

/-- A charge, in the Event Unit. -/
theorem charge_events (l : LaneId) (cost : Nat) (s : State) :
    (charge l cost s).events = s.events.afterCharge l cost s.lanes[l] := by
  have htested : (if s.lanes[l].hasCredit then updateLane l (Lane.charged cost) s
      else noteExhausted l (updateLane l (Lane.charged cost) s)).events =
      if s.lanes[l].hasCredit || s.lanes[l].exhausted then s.events else s.events.withExhausted l := by
    cases hcredit : s.lanes[l].hasCredit with
    | true => rfl
    | false =>
      rw [if_neg Bool.false_ne_true, noteExhausted_events, updateLane_lane, if_pos rfl]
      rfl
  simp only [charge, noteWatermark_events, charge_tested_lane, if_true, htested]
  rfl

/-- A charge carries the lane to its watermark for the first time exactly as the test of R50 says. -/
theorem Lane.reaches_iff (cost : Nat) (x : Lane) :
    ((x.charged cost).atWatermark && !x.watermarkReached) = true ↔ x.Reaches cost := by
  have hlive : (x.charged cost).live = x.live := rfl
  unfold Lane.atWatermark Lane.Reaches
  rw [hlive]
  cases x.live.watermark <;> simp [and_comm]

/-- The flag that a charge leaves for WATERMARK. -/
theorem Lane.afterCharge_reached (cost : Nat) (x : Lane) :
    (x.watermarkReached || (x.charged cost).atWatermark) = decide (x.watermarkReached = true ∨ x.Reaches cost) := by
  rw [Bool.eq_iff_iff, decide_eq_true_iff, ← Lane.reaches_iff]
  cases x.watermarkReached <;> simp

/-- The flag that a charge or a test leaves for EXHAUSTED. -/
theorem Lane.exhausted_credit (x : Lane) :
    (x.exhausted || !x.hasCredit) = decide (x.exhausted = true ∨ ¬ x.Credit) := by
  rw [Bool.eq_iff_iff, decide_eq_true_iff, ← Lane.hasCredit_iff]
  simp

/-- Settles O28: the lane's flags and the raises are those of `charge_lane` and `charge_events`, case by case. -/
theorem chargeRaisesOncePerPeriod : Obligations.ChargeRaisesOncePerPeriod := by
  unfold Obligations.ChargeRaisesOncePerPeriod
  intro l cost s x reached short
  have hreached : reached ↔ ((x.charged cost).atWatermark && !x.watermarkReached) = true :=
    (x.reaches_iff cost).symm
  have hshort : short ↔ (x.hasCredit || x.exhausted) = false := by
    rw [show short = (x.exhausted = false ∧ ¬ x.Credit) from rfl, ← Lane.hasCredit_iff]
    simp [and_comm]
  have hevents : (charge l cost s).events = s.events.afterCharge l cost x := charge_events l cost s
  have hflag : decide (x.exhausted = true ∨ short) = (x.exhausted || !x.hasCredit) := by
    rw [Bool.eq_iff_iff, decide_eq_true_iff, hshort]
    cases x.exhausted <;> simp
  refine ⟨?_, fun k hk => by rw [charge_lane, if_neg hk], ?_, ?_, ?_, ?_⟩
  · rw [charge_lane, if_pos rfl, Lane.afterCharge, Lane.afterCharge_reached, ← hflag]
  · intro hr hs
    rw [hreached, Bool.not_eq_true] at hr
    rw [hshort, Bool.not_eq_false] at hs
    simp only [hevents, Events.afterCharge, hr, hs]; rfl
  · intro hr hs
    rw [hreached] at hr
    rw [hshort, Bool.not_eq_false] at hs
    simp only [hevents, Events.afterCharge, hr, hs]; rfl
  · intro hr hs
    rw [hreached, Bool.not_eq_true] at hr
    rw [hshort] at hs
    simp only [hevents, Events.afterCharge, hr, hs]; rfl
  · intro hr hs
    rw [hreached] at hr
    rw [hshort] at hs
    simp only [hevents, Events.afterCharge, hr, hs]; rfl

/-! ## The grant (R44, R47) -/

/-- A lane after the grant of a request of `cost` beats that carries it; `charging` is false in BYPASS (R44, R46, R47). -/
def Lane.granted (charging : Bool) (cost : Nat) (x : Lane) : Lane :=
  { (if charging then x.afterCharge cost else x) with liveCount := x.liveCount + 1 }

/-- A forward's charge, lane by lane (R46, R47). -/
theorem chargeFor_lane (p : Passage) (k : LaneId) (s : State) :
    (chargeFor p s).lanes[k] = if p.lane = some k ∧ modeInForce s ≠ .bypass then s.lanes[k].afterCharge p.length
      else s.lanes[k] := by
  unfold chargeFor
  cases hl : p.lane with
  | none => simp
  | some l =>
    cases hm : modeInForce s <;> simp only [charge_lane, Option.some.injEq, eq_comm (a := k)] <;>
      by_cases hk : l = k <;> simp [hk]

/-- The rise of a live count, lane by lane (R44). -/
theorem liveRises_lane (lane : Option LaneId) (k : LaneId) (s : State) :
    (liveRises lane s).lanes[k] =
      if lane = some k then { s.lanes[k] with liveCount := s.lanes[k].liveCount + 1 } else s.lanes[k] := by
  cases lane with
  | none => simp [liveRises]
  | some l =>
    rw [liveRises, updateLane_lane]
    by_cases hk : k = l
    · subst hk; simp
    · simp [hk, Ne.symm hk]

/-- A grant, lane by lane. -/
theorem grant_lane (p : Passage) (t : DownTag) (k : LaneId) (s : State) :
    (grant p t s).lanes[k] =
      if p.lane = some k then s.lanes[k].granted (modeInForce s != .bypass) p.length else s.lanes[k] := by
  have hgrant : (grant p t s).lanes = (liveRises p.lane (chargeFor p s)).lanes := rfl
  rw [hgrant, liveRises_lane, chargeFor_lane]
  by_cases hk : p.lane = some k
  · by_cases hm : modeInForce s = .bypass <;> simp [hk, hm, Lane.granted, Lane.afterCharge, Lane.charged]
  · simp [hk]

/-- What a grant puts on offer and in the In-Flight Table (R2, R98, R99). -/
theorem grant_writes (p : Passage) (t : DownTag) (s : State) :
    (grant p t s).downRequest = some (downRecord p t) ∧ (grant p t s).tags = s.tags.set t (.live (flightOf p s)) := by
  simp [grant]

/-- A grant, in the Event Unit: what its charge raises. -/
theorem grant_events (p : Passage) (t : DownTag) (s : State) :
    (grant p t s).events = (chargeFor p s).events := by
  simp [grant]

/-- A forward's charge, in the Event Unit. -/
theorem chargeFor_events (p : Passage) (s : State) :
    (chargeFor p s).events = match p.lane with
      | none => s.events
      | some l => if modeInForce s = .bypass then s.events else (charge l p.length s).events := by
  unfold chargeFor
  cases p.lane with
  | none => rfl
  | some l => cases hm : modeInForce s <;> simp

/-! ## Holds, refusals and tests counted (R51, R52) -/

/-- A hold counted, lane by lane (R52). -/
theorem countHold_lane (lane : Option LaneId) (k : LaneId) (s : State) :
    (countHold lane s).lanes[k] =
      if lane = some k then { s.lanes[k] with totalHolds := satAdd Config.top32 s.lanes[k].totalHolds 1 }
      else s.lanes[k] := by
  cases lane with
  | none => simp [countHold]
  | some l =>
    rw [countHold, updateLane_lane]
    by_cases hk : k = l
    · subst hk; simp
    · simp [hk, Ne.symm hk]

/-- A refusal counted, lane by lane (R52). -/
theorem countRefusal_lane (lane : Option LaneId) (k : LaneId) (s : State) :
    (countRefusal lane s).lanes[k] =
      if lane = some k then { s.lanes[k] with totalRefusals := satAdd Config.top32 s.lanes[k].totalRefusals 1 }
      else s.lanes[k] := by
  cases lane with
  | none => simp [countRefusal]
  | some l =>
    rw [countRefusal, updateLane_lane]
    by_cases hk : k = l
    · subst hk; simp
    · simp [hk, Ne.symm hk]

/-- A test's EXHAUSTED, lane by lane (R51). -/
theorem noteShort_lane (lane : Option LaneId) (short : Bool) (k : LaneId) (s : State) :
    (noteShort lane short s).lanes[k] =
      { s.lanes[k] with exhausted := s.lanes[k].exhausted || (short && decide (lane = some k)) } := by
  cases lane with
  | none => simp [noteShort]
  | some l =>
    cases short with
    | false => simp [noteShort]
    | true => simp [noteShort, noteExhausted_lane, eq_comm (a := k), -Fin.getElem_fin]

/-- A test's EXHAUSTED, in the Event Unit (R51). -/
theorem noteShort_events (lane : Option LaneId) (short : Bool) (s : State) :
    (noteShort lane short s).events = match lane with
      | none => s.events
      | some l => if short && !s.lanes[l].exhausted then s.events.withExhausted l else s.events := by
  cases lane with
  | none => rfl
  | some l =>
    cases short <;> cases h : s.lanes[l].exhausted <;> simp [noteShort, noteExhausted_events, h, -Fin.getElem_fin]

/-! ## Replenishment and completions (R53, R58) -/

/-- The balance a new period starts with, by the sign of the old one (R54). -/
theorem Lane.refilled_eq (c : LaneConfig) (x : Lane) :
    x.refilled c =
      if c.kind = .metered then (if x.balance < 0 then c.budget + x.balance else c.budget) else c.budget := by
  unfold Lane.refilled
  cases c.kind with
  | metered =>
    by_cases hneg : x.balance < 0
    · simp [hneg, min_eq_right hneg.le]
    · simp [hneg, min_eq_left (not_lt.mp hneg)]
  | openLane | closed => simp

/-- Settles O29: the refill is `Lane.refilled_eq`, and every other field is as the replenishment writes it. -/
theorem replenishmentRefills : Obligations.ReplenishmentRefills := by
  unfold Obligations.ReplenishmentRefills
  intro commit l c
  simp only [Lane.replenished, Lane.refilled_eq]
  rfl

/-- One lane's replenishment, lane by lane (R53). -/
theorem replenish_lane (g : Gen) (commit : Bool) (l k : LaneId) (s : State) :
    (replenish g commit l s).lanes[k] = if k = l then s.lanes[l].replenished commit else s.lanes[k] := by
  have hlanes : (if s.lanes[l].live.summary then logRecord (summaryRecord l g s.lanes[l]) s else s).lanes = s.lanes := by
    split
    · simp only [logRecord_fields]
    · rfl
  simp only [replenish, bringOn_fields, updateLane_lane, hlanes]

/-- What both completions come to: a quiesce's, a RESTART's, or nothing (R155, R160). -/
theorem judgeDrained_cases (s : State) :
    ((s.mode = .quiescing ∧ s.hold = [] ∧ liveTotal s = 0) ∧
        judgeDrained s = raise .quiesceDone (enter .quiesced { s with quiesceTimer := none })) ∨
      ((s.mode = .restarting ∧ s.hold = []) ∧
        judgeDrained s = enter (.operating s.resume) (raise .restartDone (restartPeriods s))) ∨
      (¬ (s.mode = .quiescing ∧ s.hold = [] ∧ liveTotal s = 0) ∧ ¬ (s.mode = .restarting ∧ s.hold = []) ∧
        judgeDrained s = s) := by
  unfold judgeDrained
  rcases completeQuiesce_cases s with ⟨hdrained, h⟩ | ⟨hnot, h⟩ <;> rw [h]
  · rcases completeRestart_cases (raise .quiesceDone (enter .quiesced { s with quiesceTimer := none })) with
      ⟨⟨hm, -⟩, -⟩ | ⟨-, h'⟩
    · simp at hm
    · exact .inl ⟨hdrained, h'⟩
  · rcases completeRestart_cases s with ⟨hemptied, h'⟩ | ⟨hnot', h'⟩
    · exact .inr (.inl ⟨hemptied, h'⟩)
    · exact .inr (.inr ⟨hnot, hnot', h'⟩)

end Sys2Proof.Machine
end

section
/-! Requests: where a record's data ends, which records are malformed (R3, R5), and what the checks hand on of a
well-formed one (R7 to R10). -/

namespace Sys2Proof.Machine

/-! ## The beats of a record (R3) -/

/-- The beats that belong to a record end at its first marked beat, if that is among the first `n`, or at the `n`-th. -/
theorem beatsUpTo_eq (n : Nat) (bs : List LinkBeat) :
    beatsUpTo n bs = match (bs.take n).findIdx? LinkBeat.last with
      | some i => bs.take (i + 1)
      | none => bs.take n := by
  induction n generalizing bs with
  | zero => simp [beatsUpTo]
  | succ n ih =>
    cases bs with
    | nil => simp [beatsUpTo]
    | cons b bs =>
      cases hb : b.last with
      | true => simp [beatsUpTo, hb, List.findIdx?_cons]
      | false =>
        simp only [beatsUpTo, hb, ih, List.take_succ_cons, List.findIdx?_cons]
        cases (bs.take n).findIdx? LinkBeat.last <;> simp

/-- A record has no beats of its own exactly when it carries none. -/
theorem ownBeats_eq_nil_iff (r : Request) : ownBeats r = [] ↔ r.beats = [] := by
  unfold ownBeats Config.maxBeats
  cases r.beats with
  | nil => simp [beatsUpTo]
  | cons b bs => simp only [beatsUpTo]; split <;> simp

/-- The beats of a list's start up to a marked one end marked. -/
theorem endsMarked_take {bs : List LinkBeat} {n i : Nat} (h : (bs.take n).findIdx? LinkBeat.last = some i) :
    endsMarked (bs.take (i + 1)) = true ∧ (bs.take (i + 1)).length = i + 1 := by
  obtain ⟨hi, hlast, -⟩ := List.findIdx?_eq_some_iff_getElem.mp h
  have hib : i < bs.length := by simp at hi; omega
  have hget : (bs.take (i + 1)).getLast? = some bs[i] := by
    rw [List.getLast?_eq_getElem?, List.length_take, Nat.min_eq_left hib]
    simp [hib]
  rw [List.getElem_take] at hlast
  exact ⟨by simp only [endsMarked, hget, hlast], by simp; omega⟩

/-- Beats none of which is marked do not end marked. -/
theorem endsMarked_of_none {bs : List LinkBeat} (h : bs.findIdx? LinkBeat.last = none) : endsMarked bs = false := by
  unfold endsMarked
  cases hl : bs.getLast? with
  | none => rfl
  | some b => simpa using List.findIdx?_eq_none_iff.mp h b (List.mem_of_getLast? hl)

/-- A WRITE's data fits exactly when the first marked beat comes at beat length, and then it is the first so many beats
(R3, R5). -/
theorem dataFits_write_iff (r : Request) (n : Nat) (hn : 1 ≤ n) :
    dataFits .write n (ownBeats r) = true ↔ (r.beats.take 16).findIdx? LinkBeat.last = some (n - 1) := by
  simp only [dataFits, ownBeats, Config.maxBeats, beatsUpTo_eq, Bool.and_eq_true, decide_eq_true_eq]
  cases h : (r.beats.take 16).findIdx? LinkBeat.last with
  | none => simp [endsMarked_of_none h]
  | some i =>
    obtain ⟨hmarked, hlen⟩ := endsMarked_take h
    simp only [hmarked, hlen, true_and, Option.some.injEq]
    omega

/-- The beats of a WRITE whose first marked beat comes at beat `n`. -/
theorem ownBeats_of_findIdx {r : Request} {n : Nat} (hn : 1 ≤ n)
    (h : (r.beats.take 16).findIdx? LinkBeat.last = some (n - 1)) :
    ownBeats r = r.beats.take n := by
  simp only [ownBeats, Config.maxBeats, beatsUpTo_eq, h]
  rw [Nat.sub_add_cancel hn]

/-! ## Malformed requests (R5) -/

/-- A kind code names the kind of that code, or it is 3 (section 11.6). -/
theorem kindOfCode_cases (c : BitVec 2) :
    (c = 3 ∧ kindOfCode c = none) ∨ (c ≠ 3 ∧ ∃ k, kindOfCode c = some k ∧ k.code = c) := by
  unfold kindOfCode
  split_ifs with h0 h1 h2
  · exact .inr ⟨by simp [h0], .read, rfl, h0.symm⟩
  · exact .inr ⟨by simp [h1], .write, rfl, h1.symm⟩
  · exact .inr ⟨by simp [h2], .fetch, rfl, h2.symm⟩
  · exact .inl ⟨by bv_omega, rfl⟩

/-- The span of a request fits exactly by the conditions of R5. -/
theorem spanFits_iff (a : Address) (n : Nat) :
    spanFits a n = true ↔ a.toNat % 32 = 0 ∧ (1 ≤ n ∧ n ≤ 16) ∧ a.toNat % 4096 + 32 * n ≤ 4096 := by
  unfold spanFits Config.maxBeats
  simp only [Bool.and_eq_true, decide_eq_true_eq, and_assoc]

/-- What a well-formed request is handled as (R2, R5). -/
theorem wellFormedRequest_some_iff (r : Request) (p : Passage) :
    wellFormedRequest r = some p ↔ ∃ k, kindOfCode r.kind = some k ∧ spanFits r.address r.length.toNat = true ∧
      dataFits k r.length.toNat (ownBeats r) = true ∧
      p = { requester := r.requester, tag := r.tag, kind := k, address := r.address, length := r.length.toNat,
            data := (ownBeats r).map LinkBeat.data, lane := none, rule := none } := by
  unfold wellFormedRequest
  cases kindOfCode r.kind with
  | none => simp
  | some k => simp [and_assoc, eq_comm (a := p)]

/-- A request is malformed exactly when its kind code names no kind, or its span or its data does not fit (R5). -/
theorem wellFormedRequest_none_iff (r : Request) :
    wellFormedRequest r = none ↔ ∀ k, kindOfCode r.kind = some k → spanFits r.address r.length.toNat = true →
      dataFits k r.length.toNat (ownBeats r) = false := by
  unfold wellFormedRequest
  cases kindOfCode r.kind with
  | none => simp
  | some k => simp

/-- The data of a READ or a FETCH fits exactly when there is none (R3). -/
theorem dataFits_other_iff {k : Kind} (hk : k ≠ .write) (n : Nat) (r : Request) :
    dataFits k n (ownBeats r) = true ↔ r.beats = [] := by
  cases k with
  | write => exact absurd rfl hk
  | read | fetch => simp [dataFits, ownBeats_eq_nil_iff]

/-- Settles O16: the kind code, the span and the data are judged apart, each by its conditions of R5. -/
theorem malformedExactly : Obligations.MalformedExactly := by
  unfold Obligations.MalformedExactly
  intro r
  constructor
  · rw [wellFormedRequest_none_iff]
    rcases kindOfCode_cases r.kind with ⟨h3, hnone⟩ | ⟨h3, k, hk, hcode⟩
    · simp only [hnone]; simp [h3]
    · simp only [hk, Option.some.injEq, forall_eq', spanFits_iff, h3, false_or]
      rw [← Bool.not_eq_true]
      cases k with
      | write =>
        have h1 : r.kind = 1 := hcode.symm
        by_cases hn : 1 ≤ r.length.toNat
        · rw [dataFits_write_iff r _ hn]; simp [h1]; grind
        · simp [h1]; omega
      | read =>
        have h0 : r.kind = 0 := hcode.symm
        rw [dataFits_other_iff (by simp)]; simp [h0]; grind
      | fetch =>
        have h2 : r.kind = 2 := hcode.symm
        rw [dataFits_other_iff (by simp)]; simp [h2]; grind
  · intro p hp
    obtain ⟨k, hk, hspan, hdata, rfl⟩ := (wellFormedRequest_some_iff r p).mp hp
    have hcode : k.code = r.kind := by
      rcases kindOfCode_cases r.kind with ⟨-, hnone⟩ | ⟨-, k', hk', hcode⟩
      · simp [hk] at hnone
      · rw [hk] at hk'; cases hk'; exact hcode
    refine ⟨rfl, rfl, hcode, rfl, rfl, rfl, rfl, ?_⟩
    have hn := ((spanFits_iff _ _).mp hspan).2.1.1
    cases k with
    | write =>
      rw [if_pos (show r.kind = 1 from hcode.symm), ownBeats_of_findIdx hn ((dataFits_write_iff r _ hn).mp hdata)]
    | read | fetch =>
      have hnone := (dataFits_other_iff (by simp) _ r).mp hdata
      rw [if_neg (show r.kind ≠ 1 by rw [← hcode]; decide), (ownBeats_eq_nil_iff r).mpr hnone]
      rfl

/-! ## What the checks hand on -/

/-- The beats of the store a request uses when it is held (R78). -/
def Passage.storeBeats (p : Passage) : Nat := if p.kind = .write then p.length else 0

/-- A held entry uses the beats of its request. -/
theorem HoldEntry.storeBeats_eq (e : HoldEntry) : e.storeBeats = e.req.storeBeats := by
  unfold HoldEntry.storeBeats Passage.storeBeats
  cases e.req.kind <;> rfl

/-- A well-formed request costs 1 to 16 beats, and its data are the beats it uses in the store (R2, R3). -/
theorem wellFormedRequest_fits {r : Request} {p : Passage} (h : wellFormedRequest r = some p) :
    p.CostWithin ∧ p.data.length = p.storeBeats := by
  obtain ⟨k, hk, hspan, hdata, rfl⟩ := (wellFormedRequest_some_iff r p).mp h
  obtain ⟨-, hlen, -⟩ := (spanFits_iff _ _).mp hspan
  refine ⟨hlen, ?_⟩
  cases k with
  | write =>
    simp only [dataFits, Bool.and_eq_true, decide_eq_true_eq] at hdata
    simp [Passage.storeBeats, hdata.2]
  | read | fetch => simpa [Passage.storeBeats, dataFits] using hdata

/-- What checks 4 to 6 hand on is well formed, fresh and judged in the operating mode (R7 to R10). -/
theorem Judged.Of.facts {r : Request} {s : State} {j : Judged} (h : j.Of r s) :
    j.req.CostWithin ∧ j.req.data.length = j.req.storeBeats ∧ clashes j.req.tag s = false ∧
      ∃ m, s.mode = .operating m ∧
        ∀ l, j.req.lane = some l → (j.short = true ↔ m = .govern ∧ ¬ s.lanes[l].Credit) := by
  obtain ⟨m, p, hm, hp, hcl, rfl⟩ := h
  obtain ⟨hcost, hdata⟩ := wellFormedRequest_fits hp
  refine ⟨hcost, hdata, hcl, m, hm, fun l hl => ?_⟩
  have hlane : (classifyIn m p s).lane = some l := hl
  rw [← Lane.hasCredit_iff]
  cases m <;> simp [judged, testShort, testedLane, hlane]

end Sys2Proof.Machine
end

section
/-! The composed events: what a release scan, a restart and an expiry do to the lanes and to the requests held. -/

namespace Sys2Proof.Machine

/-! ## The release scan (R81) -/

/-- A scan's effects before its grant: refusals decided, EXHAUSTED noted (R81, R84). -/
def scanned (s : State) : State :=
  let judged := noteShorts (scan s [] s.hold).shorts { s with hold := (scan s [] s.hold).entries, scanDue := false }
  if (scan s [] s.hold).entries = s.hold then judged else bringOn judged

/-- A release scan is those effects and the grant. -/
theorem releaseScan_eq (s : State) : releaseScan s = grantHeld (scan s [] s.hold).first (scanned s) := rfl

/-- What a scan's effects before its grant leave (R81, R82). -/
@[simp] theorem scanned_fields (s : State) :
    (scanned s).phase = s.phase ∧ (scanned s).timebase = s.timebase ∧ (scanned s).offered = s.offered ∧
      (scanned s).downRequest = s.downRequest ∧ (scanned s).downResponse = s.downResponse ∧
      (scanned s).upResponse = s.upResponse ∧ (scanned s).localQueue = s.localQueue ∧ (scanned s).turn = s.turn ∧
      (scanned s).rules = s.rules ∧ (scanned s).gens = s.gens ∧ (scanned s).hold = (scan s [] s.hold).entries ∧
      (scanned s).tags = s.tags ∧ (scanned s).triggers = s.triggers ∧ (scanned s).log = s.log ∧
      (scanned s).faults = s.faults ∧ (scanned s).mode = s.mode ∧ (scanned s).resume = s.resume ∧
      (scanned s).quiesceTimer = s.quiesceTimer ∧ (scanned s).limits = s.limits ∧ (scanned s).straps = s.straps ∧
      (scanned s).resetCause = s.resetCause ∧ (scanned s).port = s.port ∧ (scanned s).pending = s.pending := by
  unfold scanned
  dsimp only
  split <;> simp

/-- EXHAUSTED noted by a scan, lane by lane (R51, R84). -/
theorem scanned_lane (s : State) (k : LaneId) :
    (scanned s).lanes[k] =
      { s.lanes[k] with exhausted := s.lanes[k].exhausted || decide (k ∈ (scan s [] s.hold).shorts) } := by
  have hlanes : (scanned s).lanes = (noteShorts (scan s [] s.hold).shorts
      { s with hold := (scan s [] s.hold).entries, scanDue := false }).lanes := by
    unfold scanned
    dsimp only
    split <;> rfl
  rw [hlanes, noteShorts_lane]

/-- The release of the entry `e`, which stands at position `n`, with tag `t` (R87). -/
def released (n : Nat) (e : HoldEntry) (t : DownTag) (s : State) : State :=
  bringOn { grant e.req t s with hold := s.hold.eraseIdx n }

/-- The lowest FREE tag depends on the In-Flight Table alone (R99). -/
theorem lowestFree_congr {s u : State} (h : u.tags = s.tags) : lowestFree u = lowestFree s := by
  simp only [lowestFree, h]

/-- A grant to the oldest eligible entry is a release, or nothing (R81, R85, R86). -/
theorem grantHeld_cases (first : Option Nat) (s : State) :
    grantHeld first s = s ∨ ∃ t n e, s.downRequest = none ∧ lowestFree s = some t ∧ first = some n ∧
      s.hold[n]? = some e ∧ grantHeld first s = released n e t s := by
  unfold grantHeld
  cases hchannel : s.downRequest with
  | some d => exact .inl rfl
  | none =>
    cases htag : lowestFree s with
    | none => exact .inl rfl
    | some t =>
      cases first with
      | none => exact .inl rfl
      | some n =>
        cases he : s.hold[n]? with
        | none => exact .inl (by simp only [release, he])
        | some e => exact .inr ⟨t, n, e, rfl, rfl, rfl, he, by simp only [release, he]; rfl⟩

/-- A release scan ends without a grant, or with the release of the oldest eligible entry (R81). -/
theorem releaseScan_cases (s : State) :
    releaseScan s = scanned s ∨ ∃ t n e, s.downRequest = none ∧ lowestFree s = some t ∧
      (scan s [] s.hold).first = some n ∧ (scan s [] s.hold).entries[n]? = some e ∧
      releaseScan s = released n e t (scanned s) := by
  rw [releaseScan_eq]
  rcases grantHeld_cases (scan s [] s.hold).first (scanned s) with h | ⟨t, n, e, hch, htag, hfirst, he, h⟩
  · exact .inl h
  · have hfree : lowestFree (scanned s) = lowestFree s := lowestFree_congr (by simp)
    rw [hfree] at htag
    exact .inr ⟨t, n, e, by simpa using hch, htag, hfirst, by simpa using he, h⟩

/-- A release, lane by lane: the grant's (R87). -/
theorem released_lane (n : Nat) (e : HoldEntry) (t : DownTag) (k : LaneId) (s : State) :
    (released n e t s).lanes[k] =
      if e.req.lane = some k then s.lanes[k].granted (modeInForce s != .bypass) e.req.length else s.lanes[k] :=
  grant_lane e.req t k s

/-! ## Requests held -/

/-- The requests of the held entries, oldest first. -/
def State.requests (s : State) : List Passage := s.hold.map HoldEntry.req

/-- A scan keeps the requests held (R81). -/
theorem scan_entries_requests (s : State) : (scan s [] s.hold).entries.map HoldEntry.req = s.requests := by
  simp [scan_reqs, State.requests]

/-- An update of one held entry that keeps its request keeps the requests held. -/
theorem modify_requests {q : List HoldEntry} {n : Nat} {f : HoldEntry → HoldEntry} (h : ∀ e, (f e).req = e.req) :
    (q.modify n f).map HoldEntry.req = q.map HoldEntry.req := by
  induction q generalizing n with
  | nil => simp
  | cons e q ih => cases n <;> simp [h, ih]

/-- A FORCE cascade keeps the requests held (R91). -/
theorem forceCascade_requests (n : Nat) (e : HoldEntry) (q : List HoldEntry) :
    (forceCascade n e q).map HoldEntry.req = q.map HoldEntry.req := by
  unfold forceCascade
  refine List.ext_getElem (by simp) fun i h1 h2 => ?_
  simp only [List.getElem_map, List.getElem_mapIdx]
  split <;> rfl

/-- What an event does to the requests held: a taken hold joins as the youngest; otherwise none joins and the order
stays (R78, R80). -/
theorem Event.requests {c : Instr} {s t : State} (h : Event c s t) :
    t.requests.Sublist s.requests ∨
      ∃ r j k, j.Of r s ∧ hasRoom j.req s = true ∧ t = takeHold j k (emptied s) ∧ t.requests = s.requests ++ [j.req] := by
  cases h with
  | hold r j k hj hroom => exact .inr ⟨r, j, k, hj, hroom, rfl, by simp [State.requests, takeHold, heldEntry, emptied]⟩
  | scans =>
    left
    rcases releaseScan_cases s with h | ⟨t, n, e, -, -, -, -, h⟩ <;> rw [h]
    · simp [State.requests, scan_reqs]
    · have hreqs := scan_entries_requests s
      simp only [State.requests, released, bringOn_fields, scanned_fields] at hreqs ⊢
      rw [← hreqs, ← List.eraseIdx_map]
      exact List.eraseIdx_sublist _ _
  | leave n e r hn he hr hslot =>
    left
    simp only [State.requests, judgeDrained_fields, leaveRefused, bringOn_fields, recordLeaving_fields]
    rw [← List.eraseIdx_map]
    exact List.eraseIdx_sublist _ _
  | aged n => left; simp [State.requests, modify_requests]
  | forced n e he => left; simp [State.requests, expireForce, noteExpiry, forceCascade_requests]
  | expired n e he => left; simp [State.requests, expireRefuse, noteExpiry, modify_requests, HoldEntry.refuse]
  | frame p u hp hu =>
    left
    cases hu with
    | restart back hm => simp [State.requests, restartFrom, HoldEntry.refuse, Function.comp_def]
    | _ => simp [State.requests, resumed]
  | _ => left; simp [State.requests, takeMalformed, takeClash, takeForward, takeRefuse, emptied, timeOut, relay, atHead,
      returnOrphan, discardUnknown, HoldEntry.ticked, HoldEntry.refuse, Function.comp_def]

/-! ## An expiry (R63) -/

/-- The replenishments of lanes bound to `g`, for a list of lanes in which none stands twice, lane by lane. -/
theorem foldl_replenish_lane (g : Gen) (commit : Bool) (ls : List LaneId) (hnodup : ls.Nodup) (k : LaneId) (s : State) :
    (ls.foldl (fun s l => if s.lanes[l].live.gen = g then replenish g commit l s else s) s).lanes[k] =
      if k ∈ ls ∧ s.lanes[k].live.gen = g then s.lanes[k].replenished commit else s.lanes[k] := by
  induction ls generalizing s with
  | nil => simp
  | cons l ls ih =>
    obtain ⟨hl, hls⟩ := List.nodup_cons.mp hnodup
    rw [List.foldl_cons, ih hls]
    by_cases hk : k = l
    · subst hk
      by_cases hg : s.lanes[k].live.gen = g <;> simp [hl, hg, replenish_lane, -Fin.getElem_fin]
    · by_cases hg : s.lanes[l].live.gen = g <;> simp [hk, hg, replenish_lane, -Fin.getElem_fin]

/-- An expiry, lane by lane: those bound to its generator are replenished under the commit it carries (R53, R63). -/
theorem expire_lane (g : Gen) (k : LaneId) (s : State) :
    (expire g s).lanes[k] =
      if s.lanes[k].live.gen = g then s.lanes[k].replenished s.gens[g].commitPending else s.lanes[k] := by
  have h := foldl_replenish_lane g s.gens[g].commitPending (List.finRange 16) (List.nodup_finRange 16) k (expireGen g s)
  simpa [expire, replenishBound, -Fin.getElem_fin] using h

/-- Both completions, lane by lane: a RESTART that completes restarts every lane (R58, R160). -/
theorem judgeDrained_lane (s : State) (k : LaneId) :
    (judgeDrained s).lanes[k] = if s.mode = .restarting ∧ s.hold = [] then s.lanes[k].restarted else s.lanes[k] := by
  rcases judgeDrained_cases s with ⟨⟨hm, -⟩, h⟩ | ⟨hr, h⟩ | ⟨-, hr, h⟩ <;> rw [h]
  · simp [hm]
  · rw [if_pos hr]; simp
  · rw [if_neg hr]

end Sys2Proof.Machine
end

section
/-! Every step keeps the lanes sound (R34 to R38, R36): each operation on one lane does, and `Event` says which operation
each command makes. -/

namespace Sys2Proof.Machine

/-- A saturating sum stays within its top. -/
theorem satAdd_le (top a b : Nat) : satAdd top a b ≤ top := min_le_left _ _

/-- A lane whose records, balance and counters are those of a sound lane is sound. -/
theorem Lane.Sound.of_fields {x y : Lane} (h : x.Sound) (hlive : y.live = x.live) (hstaged : y.staged = x.staged)
    (hbalance : y.balance = x.balance) (hcounted : y.Counted) : y.Sound := by
  obtain ⟨hl, hs, hb, -⟩ := h
  exact ⟨hlive ▸ hl, hstaged ▸ hs, by unfold Lane.BalanceWithin at *; rwa [hlive, hbalance], hcounted⟩

/-- A charge of at most 16 beats keeps the balance within its bounds (R36, R47, R48). -/
theorem Lane.BalanceWithin.charged {x : Lane} (h : x.BalanceWithin) {cost : Nat} (hcost : cost ≤ 16) :
    (x.charged cost).BalanceWithin := by
  have hlive : (x.charged cost).live = x.live := rfl
  unfold Lane.BalanceWithin at *
  rw [hlive, Lane.charged_balance]
  by_cases hkind : x.live.kind = .metered
  · rw [if_pos hkind] at *
    cases hcredit : x.hasCredit with
    | true =>
      have hpos : 1 ≤ x.balance := by simpa [Lane.hasCredit, hkind] using hcredit
      simp only [if_true]
      omega
    | false => simp only [Bool.false_eq_true, if_false]; omega
  · simp only [if_neg hkind] at *
    exact h

/-- A charge of at most 16 beats, with the flags it raises, keeps a lane sound. -/
theorem Lane.Sound.afterCharge {x : Lane} (h : x.Sound) {cost : Nat} (hcost : cost ≤ 16) :
    (x.afterCharge cost).Sound := by
  obtain ⟨hl, hs, hb, hcons, hover, hlast, hholds, href, htot⟩ := h
  exact ⟨hl, hs, hb.charged hcost, satAdd_le _ _ _, satAdd_le _ _ _, hlast, hholds, href, satAdd_le _ _ _⟩

/-- A grant of at most 16 beats keeps a lane sound (R44, R47). -/
theorem Lane.Sound.granted {x : Lane} (h : x.Sound) (charging : Bool) {cost : Nat} (hcost : cost ≤ 16) :
    (x.granted charging cost).Sound := by
  cases charging with
  | true => exact h.afterCharge hcost
  | false => exact h

/-- A new period's balance is within the bounds of its record (R36, R54). -/
theorem Lane.refilled_within {x : Lane} (hbalance : -15 ≤ x.balance) {c : LaneConfig} (hc : c.legal = true) :
    if c.kind = .metered then -15 ≤ x.refilled c ∧ x.refilled c ≤ c.budget else x.refilled c = c.budget := by
  have hbudget : 16 ≤ c.budget := by
    simp only [LaneConfig.legal, Bool.and_eq_true] at hc
    obtain ⟨⟨⟨hmin, -⟩, -⟩, -⟩ := hc
    exact of_decide_eq_true hmin
  rw [Lane.refilled_eq]
  split
  · split <;> omega
  · rfl

/-- A sound lane's balance is at least −15 (R36). -/
theorem Lane.Sound.floor {x : Lane} (h : x.Sound) : -15 ≤ x.balance := by
  obtain ⟨-, -, hb, -⟩ := h
  unfold Lane.BalanceWithin at hb
  split at hb <;> omega

/-- A replenishment keeps a lane sound (R53, R54). -/
theorem Lane.Sound.replenished {x : Lane} (h : x.Sound) (commit : Bool) : (x.replenished commit).Sound := by
  have hfloor := h.floor
  obtain ⟨hl, hs, -, hcons, hover, hlast, hholds, href, htot⟩ := h
  have hc : (if commit then x.staged else x.live).legal = true := by cases commit <;> assumption
  exact ⟨hc, hs, Lane.refilled_within hfloor hc, Nat.zero_le _, Nat.zero_le _, hcons, hholds, href, htot⟩

/-- A restart keeps a lane sound (R58). -/
theorem Lane.Sound.restarted {x : Lane} (h : x.Sound) : x.restarted.Sound := by
  obtain ⟨hl, hs, -, -, -, -, hholds, href, htot⟩ := h
  refine ⟨hl, hs, ?_, Nat.zero_le _, Nat.zero_le _, Nat.zero_le _, hholds, href, htot⟩
  simp only [Lane.BalanceWithin, Lane.restarted]
  split <;> simp

/-- The payload of a LANE_STAGED write decodes to a legal record alone (R66). -/
theorem decodeLane_legal {bs : List Byte} {c : LaneConfig} (h : decodeLane bs = some c) : c.legal = true := by
  unfold decodeLane at h
  split at h
  · split at h
    · dsimp only at h
      split at h
      · cases h; assumption
      · cases h
    · cases h
  · cases h

/-- Every lane is sound. -/
def LanesSound (s : State) : Prop := ∀ l : LaneId, s.lanes[l].Sound

/-- Operations that leave the lanes keep them sound. -/
theorem LanesSound.of_eq {s t : State} (h : LanesSound s) (heq : t.lanes = s.lanes) : LanesSound t := by
  intro l
  rw [heq]
  exact h l

/-- A change of one lane that keeps it sound keeps all sound. -/
theorem LanesSound.updateLane {s : State} (h : LanesSound s) {l : LaneId} {f : Lane → Lane}
    (hf : (f s.lanes[l]).Sound) : LanesSound (updateLane l f s) := by
  intro k
  rw [updateLane_lane]
  split
  · exact hf
  · exact h k

/-- A grant of at most 16 beats keeps the lanes sound. -/
theorem LanesSound.grant {s : State} (h : LanesSound s) {p : Passage} (t : DownTag) (hp : p.CostWithin) :
    LanesSound (grant p t s) := by
  intro k
  rw [grant_lane]
  split
  · exact (h k).granted _ hp.2
  · exact h k

/-- A test's EXHAUSTED keeps the lanes sound. -/
theorem LanesSound.noteShort {s : State} (h : LanesSound s) (lane : Option LaneId) (short : Bool) :
    LanesSound (noteShort lane short s) := by
  intro k
  rw [noteShort_lane]
  exact h k

/-- A hold counted keeps the lanes sound. -/
theorem LanesSound.countHold {s : State} (h : LanesSound s) (lane : Option LaneId) :
    LanesSound (countHold lane s) := by
  intro k
  rw [countHold_lane]
  split
  · obtain ⟨hl, hs, hb, hcons, hover, hlast, -, href, htot⟩ := h k
    exact ⟨hl, hs, hb, hcons, hover, hlast, satAdd_le _ _ _, href, htot⟩
  · exact h k

/-- A refusal counted keeps the lanes sound. -/
theorem LanesSound.countRefusal {s : State} (h : LanesSound s) (lane : Option LaneId) :
    LanesSound (countRefusal lane s) := by
  intro k
  rw [countRefusal_lane]
  split
  · obtain ⟨hl, hs, hb, hcons, hover, hlast, hholds, -, htot⟩ := h k
    exact ⟨hl, hs, hb, hcons, hover, hlast, hholds, satAdd_le _ _ _, htot⟩
  · exact h k

/-- A live count that falls keeps the lanes sound. -/
theorem LanesSound.liveFalls {s : State} (h : LanesSound s) (lane : Option LaneId) :
    LanesSound (liveFalls lane s) := by
  intro k
  rw [liveFalls_lane]
  split <;> exact h k

/-- The completions keep the lanes sound. -/
theorem LanesSound.judgeDrained {s : State} (h : LanesSound s) : LanesSound (judgeDrained s) := by
  intro k
  rw [judgeDrained_lane]
  split
  · exact (h k).restarted
  · exact h k

/-- The leaving of a refused entry keeps the lanes sound (R94). -/
theorem LanesSound.recordLeaving {s : State} (h : LanesSound s) (e : HoldEntry) (r : HoldRefusal) :
    LanesSound (recordLeaving e r s) := by
  cases r with
  | rate =>
    have hcount := h.countRefusal e.req.lane
    simp only [Sys2Proof.Machine.recordLeaving]
    split
    · exact hcount.of_eq (by simp)
    · exact hcount
  | expired => exact h.of_eq (by simp [Sys2Proof.Machine.recordLeaving])
  | withdrawn => exact h

/-- A frame keeps the lanes sound. -/
theorem Written.lanesSound {c : Instr} {s u : State} (h : LanesSound s) (hu : Written c s u) : LanesSound u := by
  cases hu with
  | restart back hm =>
    intro k
    rcases completeRestart_cases (withdrawAll (enter .restarting { s with resume := back })) with ⟨-, hr⟩ | ⟨-, hr⟩
    · rw [restartFrom, hr]
      simpa using (h k).restarted
    · rw [restartFrom, hr]
      exact h k
  | staged f l x hc hx =>
    obtain ⟨hl, -, hb, hcounted⟩ := h l
    exact h.updateLane ⟨hl, decodeLane_legal hx, hb, hcounted⟩
  | cleared l =>
    obtain ⟨hl, hs, hb, hcons, hover, -⟩ := h l
    exact h.updateLane ⟨hl, hs, hb, hcons, hover, Nat.zero_le _, Nat.zero_le _, Nat.zero_le _, Nat.zero_le _⟩
  | _ => exact h.of_eq (by simp [resumed])

/-- Every event keeps the lanes sound. -/
theorem Event.lanesSound {c : Instr} {s t : State} (hs : s.Solvent) (h : Event c s t) : LanesSound t := by
  have hlanes : LanesSound s := hs.1
  have hmany : ∀ {u : State}, u.lanes = s.lanes → LanesSound u := fun heq => hlanes.of_eq heq
  cases h with
  | forward r j t hj htag hchannel horder =>
    obtain ⟨hcost, -⟩ := hj.facts
    exact LanesSound.grant (LanesSound.noteShort (hmany (by simp [emptied])) _ _) t hcost
  | hold r j k hj hroom =>
    have hnoted : LanesSound (countHold j.req.lane (noteShort j.req.lane j.short
        (logScreenMark j (.held k) (evaluateTriggers j.req (.held k) (emptied s))))) :=
      LanesSound.countHold (LanesSound.noteShort (hmany (by simp [emptied])) _ _) _
    exact hnoted.of_eq (by simp [takeHold])
  | refuse r j st hj hslot =>
    have hnoted := LanesSound.countRefusal (LanesSound.noteShort (s := logRefusal (refusalLogged j st (emptied s))
      j.req.record j.req.lane j.req.rule st (logScreenMark { j with screenMark := screenRefused j st } (.refused st)
        (evaluateTriggers j.req (.refused st) (noteOverflow j st (emptied s))))) (hmany (by simp [emptied]))
      j.req.lane j.short) j.req.lane
    exact hnoted.of_eq (by simp [takeRefuse])
  | scans =>
    have hscanned : LanesSound (scanned s) := fun k => by rw [scanned_lane]; exact hlanes k
    rcases releaseScan_cases s with h | ⟨t, n, e, -, -, -, he, h⟩ <;> rw [h]
    · exact hscanned
    · have hreq : e.req ∈ s.requests := by
        rw [← scan_entries_requests]
        exact List.mem_map_of_mem (List.mem_of_getElem? he)
      obtain ⟨x, hx, hxe⟩ := List.mem_map.mp hreq
      exact (hscanned.grant t (hxe ▸ hs.2 x hx)).of_eq rfl
  | leave n e r hn he hr hslot =>
    have hbase : LanesSound { queueLocal e.req.tag r.status s with hold := s.hold.eraseIdx n } := hmany rfl
    exact LanesSound.judgeDrained ((hbase.recordLeaving e r).of_eq (by simp [leaveRefused]))
  | timeout t f ht hslot =>
    have hfalls : LanesSound (liveFalls f.lane (setTag t f.orphan (queueLocal f.tag .timedOut s))) :=
      LanesSound.liveFalls (hmany (by simp)) _
    exact LanesSound.judgeDrained (hfalls.of_eq (by simp [leaveLive]))
  | relays h f ht =>
    have hfalls : LanesSound (liveFalls f.lane (setTag h.tag .free
        { atHead h s with upResponse := some (relayed h f), turn := .localSide })) :=
      LanesSound.liveFalls (hmany (by simp [atHead])) _
    exact LanesSound.judgeDrained (hfalls.of_eq (by simp [leaveLive]))
  | expiry g hc hdue =>
    intro k
    rw [expire_lane]
    split
    · exact (hlanes k).replenished _
    · exact hlanes k
  | frame p u hp hu => exact (hu.lanesSound hlanes).of_eq (by simp)
  | _ => exact hmany (by simp [takeMalformed, takeClash, emptied, expireForce, expireRefuse, noteExpiry, atHead,
      returnOrphan, discardUnknown])

/-- The costs of the requests held, by the requests alone. -/
theorem costs_of_requests {s : State} : (∀ e ∈ s.hold, e.req.CostWithin) ↔ ∀ p ∈ s.requests, p.CostWithin := by
  simp [State.requests]

/-- Every event keeps the costs of what is held within 16 beats. -/
theorem Event.costs {c : Instr} {s t : State} (hs : s.Solvent) (h : Event c s t) : ∀ e ∈ t.hold, e.req.CostWithin := by
  have hold := costs_of_requests.mp hs.2
  rw [costs_of_requests]
  rcases h.requests with hsub | ⟨r, j, k, hj, -, -, happend⟩
  · exact fun p hp => hold p (hsub.subset hp)
  · intro p hp
    rw [happend, List.mem_append, List.mem_singleton] at hp
    rcases hp with hp | rfl
    · exact hold p hp
    · exact hj.facts.1

/-- A lane after reset is sound (R34, R37, R38). -/
theorem Lane.reset_sound : Lane.reset.Sound := by decide

/-- Every lane of a state in reset is as after reset (R150). -/
theorem lanesSound_reset {s : State} (h : s.lanes = State.reset.lanes) : LanesSound s := by
  intro l
  have hl : s.lanes[l] = Lane.reset := by rw [h]; simp [State.reset]
  rw [hl]
  exact Lane.reset_sound

/-- Settles O6, event by event: `Event.lanesSound` for the lanes, `Event.costs` for the requests held. -/
theorem laneBalancesKept : Obligations.LaneBalancesKept := by
  unfold Obligations.LaneBalancesKept
  refine step_keeps (fun s q h => h) (fun c s t _ hs h => ⟨h.lanesSound hs, h.costs hs⟩) fun c s t hs h => ?_
  cases h with
  | powerOn | pin => exact ⟨lanesSound_reset rfl, by simp [heldInReset, State.reset]⟩
  | ends p cause hc hphase => exact hs

end Sys2Proof.Machine
end

section
/-! The In-Flight Table under every event: live counts stay exact (R44), and no upstream tag comes to be carried twice
(R9). Both are counts over the table, which `countTags_of_set` follows from entry to entry. -/

namespace Sys2Proof.Machine

/-! ## Counts over the table -/

/-- A count over the In-Flight Table depends on the table alone. -/
theorem countTags_congr {s u : State} (p : TagEntry → Bool) (h : u.tags = s.tags) : countTags p u = countTags p s := by
  simp only [countTags, h]

/-- A count over the In-Flight Table once entry `t` has been replaced. -/
theorem countTags_of_set {s u : State} {t : DownTag} {e : TagEntry} (p : TagEntry → Bool)
    (h : u.tags = s.tags.set t e) :
    countTags p u + (if p s.tags[t] then 1 else 0) = countTags p s + (if p e then 1 else 0) := by
  have hset := countTags_setTag p t e s
  have hcount : countTags p u = countTags p (setTag t e s) := countTags_congr p h
  rwa [← hcount] at hset

/-- A tick leaves every count that does not look at countdowns (R107). -/
theorem countTags_tick {s : State} {p : TagEntry → Bool} (h : ∀ e : TagEntry, p e.ticked = p e) :
    countTags p (tick s) = countTags p s := by
  have htoList : (tick s).tags.toList = s.tags.toList.map TagEntry.ticked := by
    refine List.ext_getElem (by simp) fun i h1 h2 => ?_
    simp [tick]
  rw [countTags, htoList, List.countP_map]
  simp only [Function.comp_def, h]
  rfl

/-- A tick leaves the state, the lane and the upstream tag of every entry (R107). -/
theorem TagEntry.ticked_kept (e : TagEntry) (l : LaneId) (u : UpTag) :
    e.ticked.isLive = e.isLive ∧ e.ticked.isLiveOn l = e.isLiveOn l ∧ e.ticked.isLiveWith u = e.isLiveWith u := by
  cases e with
  | free | orphaned f => exact ⟨rfl, rfl, rfl⟩
  | live f => simp only [TagEntry.ticked]; split <;> exact ⟨rfl, rfl, rfl⟩

/-- The lowest FREE tag's entry is FREE (R99). -/
theorem lowestFree_free {s : State} {t : DownTag} (h : lowestFree s = some t) : s.tags[t] = .free := by
  have hfree := (lowestFree_some h).1
  cases he : s.tags[t] with
  | free => rfl
  | live f | orphaned f => simp [he, TagEntry.isFree] at hfree

/-! ## Live counts (R44) -/

/-- The live counts stay exact when neither they nor the LIVE entries of any lane change. -/
theorem liveCounted_kept {s u : State} (hs : s.LiveCounted)
    (hlanes : ∀ k : LaneId, u.lanes[k].liveCount = s.lanes[k].liveCount)
    (htags : ∀ k : LaneId, countTags (TagEntry.isLiveOn k) u = countTags (TagEntry.isLiveOn k) s) : u.LiveCounted := by
  intro k
  rw [hlanes, htags]
  exact hs k

/-- The live counts stay exact when a FREE entry becomes LIVE and its lane counts one more. -/
theorem liveCounted_granted {s u : State} (hs : s.LiveCounted) {t : DownTag} {f : Flight} (hfree : s.tags[t] = .free)
    (htags : u.tags = s.tags.set t (.live f))
    (hlanes : ∀ k : LaneId, u.lanes[k].liveCount = s.lanes[k].liveCount + if f.lane = some k then 1 else 0) :
    u.LiveCounted := by
  intro k
  have hcount := countTags_of_set (TagEntry.isLiveOn k) htags
  rw [hfree] at hcount
  simp only [TagEntry.isLiveOn, beq_iff_eq, Bool.false_eq_true, if_false] at hcount
  rw [hlanes, hs k]
  exact hcount.symm

/-- The live counts stay exact when a LIVE entry leaves that state and its lane counts one less. -/
theorem liveCounted_left {s u : State} (hs : s.LiveCounted) {t : DownTag} {f : Flight} {e : TagEntry}
    (hlive : s.tags[t] = .live f) (he : e.isLive = false) (htags : u.tags = s.tags.set t e)
    (hlanes : ∀ k : LaneId, u.lanes[k].liveCount = s.lanes[k].liveCount - if f.lane = some k then 1 else 0) :
    u.LiveCounted := by
  intro k
  have hcount := countTags_of_set (TagEntry.isLiveOn k) htags
  have hnot : e.isLiveOn k = false := by
    cases e with
    | free | orphaned g => rfl
    | live g => simp [TagEntry.isLive] at he
  rw [hlive, hnot] at hcount
  simp only [TagEntry.isLiveOn, beq_iff_eq, Bool.false_eq_true, if_false] at hcount
  rw [hlanes, hs k]
  omega

/-- The completions leave every live count (R58). -/
theorem judgeDrained_liveCount (s : State) (k : LaneId) :
    (judgeDrained s).lanes[k].liveCount = s.lanes[k].liveCount := by
  rw [judgeDrained_lane]
  split <;> rfl

/-- A grant raises the live count of the lane carried. -/
theorem grant_liveCount (p : Passage) (t : DownTag) (k : LaneId) (s : State) :
    (grant p t s).lanes[k].liveCount = s.lanes[k].liveCount + if p.lane = some k then 1 else 0 := by
  rw [grant_lane]
  split <;> rfl

/-- An entry that leaves LIVE lowers the live count of its lane. -/
theorem leaveLive_liveCount (t : DownTag) (f : Flight) (e : TagEntry) (k : LaneId) (s : State) :
    (leaveLive t f e s).lanes[k].liveCount = s.lanes[k].liveCount - if f.lane = some k then 1 else 0 := by
  rw [(leaveLive_writes t f e s).2.1]
  split <;> rfl

/-- The leaving of a refused entry leaves every live count. -/
theorem recordLeaving_liveCount (e : HoldEntry) (r : HoldRefusal) (k : LaneId) (s : State) :
    (recordLeaving e r s).lanes[k].liveCount = s.lanes[k].liveCount := by
  cases r with
  | rate =>
    have hcount : (countRefusal e.req.lane s).lanes[k].liveCount = s.lanes[k].liveCount := by
      rw [countRefusal_lane]
      split <;> rfl
    simp only [recordLeaving]
    split
    · simpa only [logRecord_fields] using hcount
    · exact hcount
  | expired => simp only [recordLeaving, logRecord_fields]
  | withdrawn => rfl

/-- A frame leaves every live count. -/
theorem Written.liveCount {c : Instr} {s u : State} (hu : Written c s u) (k : LaneId) :
    u.lanes[k].liveCount = s.lanes[k].liveCount := by
  cases hu with
  | restart back hm =>
    rcases completeRestart_cases (withdrawAll (enter .restarting { s with resume := back })) with ⟨-, hr⟩ | ⟨-, hr⟩ <;>
      rw [restartFrom, hr]
    · simp [Lane.restarted]
    · rfl
  | staged f l x hc hx => rw [updateLane_lane]; split <;> simp_all
  | cleared l => rw [updateLane_lane]; split <;> simp_all [Lane.cleared]
  | _ => simp [resumed]

/-- A frame leaves the In-Flight Table. -/
theorem Written.tags {c : Instr} {s u : State} (hu : Written c s u) : u.tags = s.tags := by
  cases hu <;> simp [resumed, restartFrom]

/-- The In-Flight Table after a relay (R102). -/
theorem relay_tags (h : MemResponse) (f : Flight) (s : State) : (relay h f s).tags = s.tags.set h.tag .free := by
  simp only [relay, judgeDrained_fields]
  exact (leaveLive_writes h.tag f .free _).1

/-- The In-Flight Table after a timeout (R108). -/
theorem timeOut_tags (t : DownTag) (f : Flight) (s : State) : (timeOut t f s).tags = s.tags.set t f.orphan := by
  simp only [timeOut_eq_judgeDrained, judgeDrained_fields]
  exact (timedOut_writes t f s).1

/-- Every event keeps the live counts exact. -/
theorem Event.liveCounted {c : Instr} {s t : State} (hs : s.LiveCounted) (h : Event c s t) : t.LiveCounted := by
  have hsame : ∀ {u : State}, u.lanes = s.lanes → u.tags = s.tags → u.LiveCounted := fun hl ht =>
    liveCounted_kept hs (fun k => by rw [hl]) fun k => countTags_congr _ ht
  cases h with
  | forward r j t hj htag hchannel horder =>
    refine liveCounted_granted hs (f := flightOf j.req (noteShort j.req.lane j.short (logScreenMark j .forwarded
      (evaluateTriggers j.req (shownForward j (emptied s)) (emptied s))))) (lowestFree_free htag) ?_ fun k => ?_
    · rw [takeForward, (grant_writes _ _ _).2]; simp [emptied]
    · rw [takeForward, grant_liveCount, noteShort_lane]; simp [emptied, flightOf]
  | hold r j k hj hroom =>
    refine liveCounted_kept hs (fun l => ?_) fun l => countTags_congr _ (by simp [takeHold, emptied])
    simp only [takeHold, bringScan_fields, countHold_lane, noteShort_lane]
    split <;> simp [emptied]
  | refuse r j st hj hslot =>
    refine liveCounted_kept hs (fun l => ?_) fun l => countTags_congr _ (by simp [takeRefuse, emptied])
    simp only [takeRefuse, queueLocal_fields, countRefusal_lane, noteShort_lane]
    split <;> simp [emptied]
  | scans =>
    have hscanned : (scanned s).LiveCounted :=
      liveCounted_kept hs (fun k => by rw [scanned_lane]) fun k => countTags_congr _ (by simp)
    rcases releaseScan_cases s with h | ⟨t, n, e, -, htag, -, -, h⟩ <;> rw [h]
    · exact hscanned
    · have htag' : lowestFree (scanned s) = some t := (lowestFree_congr (by simp)).trans htag
      exact liveCounted_granted hscanned (lowestFree_free htag') (grant_writes e.req t (scanned s)).2
        fun k => grant_liveCount e.req t k (scanned s)
  | leave n e r hn he hr hslot =>
    refine liveCounted_kept hs (fun k => ?_) fun k => countTags_congr _ (by simp [leaveRefused])
    rw [judgeDrained_liveCount]
    simp only [leaveRefused, bringOn_fields, recordLeaving_liveCount, queueLocal_fields]
  | deadline t f ht hzero =>
    refine liveCounted_kept hs (fun k => by simp) fun k => ?_
    have hcount := countTags_setTag (TagEntry.isLiveOn k) t (.live { f with timeoutPending := true }) s
    rw [ht] at hcount
    exact Nat.add_right_cancel hcount
  | timeout t f ht hslot =>
    refine liveCounted_left hs (e := f.orphan) ht rfl (timeOut_tags t f s) fun k => ?_
    rw [timeOut_eq_judgeDrained, judgeDrained_liveCount, (timedOut_writes t f s).2.1]
    split <;> rfl
  | relays h f ht =>
    refine liveCounted_left hs (e := .free) ht rfl (relay_tags h f _) fun k => ?_
    rw [relay, judgeDrained_liveCount, leaveLive_liveCount]
    rfl
  | late h f ht =>
    refine liveCounted_kept hs (fun k => by simp [returnOrphan, atHead]) fun k => ?_
    have hcount := countTags_of_set (s := s) (u := returnOrphan h f (atHead h s)) (t := h.tag) (e := .free)
      (TagEntry.isLiveOn k) (by simp [returnOrphan, atHead])
    rw [ht] at hcount
    exact Nat.add_right_cancel hcount
  | ticks hc hdue => exact liveCounted_kept hs (fun k => by simp) fun k => countTags_tick fun e => (e.ticked_kept k 0).2.1
  | expiry g hc hdue =>
    refine liveCounted_kept hs (fun k => ?_) fun k => countTags_congr _ (by simp)
    rw [expire_lane]
    split <;> rfl
  | frame p u hp hu => exact liveCounted_kept hs (fun k => hu.liveCount k) fun k => countTags_congr _ hu.tags
  | _ => exact hsame (by simp [takeMalformed, takeClash, emptied, expireForce, expireRefuse, noteExpiry, atHead,
      discardUnknown]) (by simp [takeMalformed, takeClash, emptied, expireForce, expireRefuse, noteExpiry, atHead,
      discardUnknown])

/-- After a reset nothing is LIVE, so every count of entries that are not FREE is 0 (R97). -/
theorem countTags_reset {s : State} {p : TagEntry → Bool} (h : s.tags = State.reset.tags) (hp : p .free = false) :
    countTags p s = 0 := by
  rw [countTags, h, List.countP_eq_zero]
  intro e he
  have hfree : e = .free := by simpa [State.reset] using he
  rw [hfree, hp]
  exact Bool.false_ne_true

/-- The live counts are exact after a reset (R37, R97). -/
theorem liveCounted_reset {s : State} (hlanes : s.lanes = State.reset.lanes) (htags : s.tags = State.reset.tags) :
    s.LiveCounted := by
  intro k
  rw [countTags_reset htags rfl, hlanes]
  simp [State.reset, Lane.reset]

/-- Settles O8: a grant makes one entry LIVE and counts one on its lane, an entry that leaves LIVE takes one back, and
nothing else touches either. -/
theorem liveCountsStayExact : Obligations.LiveCountsStayExact := by
  unfold Obligations.LiveCountsStayExact
  refine step_keeps (fun s q h => h) (fun c s t _ hs h => h.liveCounted hs) fun c s t hs h => ?_
  cases h with
  | powerOn | pin => exact liveCounted_reset rfl rfl
  | ends p cause hc hphase => exact hs

/-! ## Upstream tags (R9) -/

/-- How many held and LIVE entries carry the upstream tag `u`. -/
def State.carriers (u : UpTag) (s : State) : Nat :=
  s.requests.countP (fun p => p.tag == u) + countTags (TagEntry.isLiveWith u) s

/-- No upstream tag stands twice exactly when none has two carriers. -/
theorem tagsUnique_iff (s : State) : s.TagsUnique ↔ ∀ u, s.carriers u ≤ 1 := by
  have hcount : ∀ u, s.upTags.count u = s.carriers u := by
    intro u
    rw [State.upTags, List.count_append, List.count_eq_countP, List.count_eq_countP, List.countP_map,
      List.countP_filterMap, State.carriers, State.requests, List.countP_map]
    refine congrArg₂ (· + ·) rfl (List.countP_congr fun e _ => ?_)
    cases e <;> simp [TagEntry.liveTag, TagEntry.isLiveWith]
  rw [State.TagsUnique, List.nodup_iff_count_le_one]
  simp only [hcount]

/-- A tag that does not clash has no carrier (R9). -/
theorem carriers_eq_zero {u : UpTag} {s : State} (h : clashes u s = false) : s.carriers u = 0 := by
  simp only [clashes, Bool.or_eq_false_iff, List.any_eq_false] at h
  obtain ⟨hheld, hlive⟩ := h
  have h1 : s.requests.countP (fun p => p.tag == u) = 0 := by
    rw [State.requests, List.countP_map]
    exact List.countP_eq_zero.mpr hheld
  have h2 : countTags (TagEntry.isLiveWith u) s = 0 := List.countP_eq_zero.mpr hlive
  rw [State.carriers, h1, h2]

/-- Taking one element out of a list takes it out of the count. -/
theorem countP_eraseIdx_add {α : Type} (p : α → Bool) {l : List α} {n : Nat} {a : α} (h : l[n]? = some a) :
    (l.eraseIdx n).countP p + (if p a then 1 else 0) = l.countP p := by
  obtain ⟨hn, rfl⟩ := List.getElem?_eq_some_iff.mp h
  rw [← (List.getElem_cons_eraseIdx_perm hn).countP_eq p, List.countP_cons]

/-- The requests held once the scan's first eligible entry has been released. -/
theorem released_requests {s : State} {n : Nat} {e : HoldEntry} (t : DownTag) :
    (released n e t (scanned s)).requests = s.requests.eraseIdx n := by
  have hreqs := scan_entries_requests s
  simp only [State.requests, released, bringOn_fields, scanned_fields] at hreqs ⊢
  rw [← hreqs, List.eraseIdx_map]

/-- The carriers of a tag do not grow when no request joins the queue and no entry with the tag becomes LIVE. -/
theorem carriers_le {s t : State} {u : UpTag} (hreqs : t.requests.Sublist s.requests)
    (htags : countTags (TagEntry.isLiveWith u) t ≤ countTags (TagEntry.isLiveWith u) s) :
    t.carriers u ≤ s.carriers u :=
  Nat.add_le_add (hreqs.countP_le) htags

/-- A FREE entry that becomes LIVE adds its own tag to the LIVE entries' alone. -/
theorem liveWith_granted {s t : State} {d : DownTag} {f : Flight} (hfree : s.tags[d] = .free)
    (htags : t.tags = s.tags.set d (.live f)) (u : UpTag) :
    countTags (TagEntry.isLiveWith u) t = countTags (TagEntry.isLiveWith u) s + if f.tag = u then 1 else 0 := by
  have hcount := countTags_of_set (TagEntry.isLiveWith u) htags
  rw [hfree] at hcount
  simpa [TagEntry.isLiveWith] using hcount

/-- An entry replaced by one that counts only if it counted adds nothing to a count. -/
theorem countTags_le_of_set {s t : State} {d : DownTag} {e : TagEntry} {p : TagEntry → Bool}
    (htags : t.tags = s.tags.set d e) (he : p e = true → p s.tags[d] = true) : countTags p t ≤ countTags p s := by
  have hcount := countTags_of_set p htags
  split_ifs at hcount with h1 h2 h3
  · omega
  · omega
  · exact absurd (he h3) h1
  · omega

/-- A taken request that adds one carrier of its own tag adds it where there was none (R9). -/
theorem carriers_taken {r : Request} {j : Judged} {s t : State} {u : UpTag} (hj : j.Of r s)
    (h : t.carriers u ≤ s.carriers u + if j.req.tag = u then 1 else 0) :
    t.carriers u ≤ s.carriers u ∨ (s.carriers u = 0 ∧ t.carriers u ≤ 1) := by
  by_cases hu : j.req.tag = u
  · obtain ⟨-, -, hfresh, -⟩ := hj.facts
    have hzero := carriers_eq_zero (hu ▸ hfresh)
    rw [if_pos hu, hzero] at h
    exact .inr ⟨hzero, h⟩
  · rw [if_neg hu] at h
    exact .inl h

/-- A tag gains a carrier only at the taking of a request with that tag, which carried nothing before (R9). -/
theorem Event.carriers {c : Instr} {s t : State} (h : Event c s t) (u : UpTag) :
    t.carriers u ≤ s.carriers u ∨ (s.carriers u = 0 ∧ t.carriers u ≤ 1) := by
  rcases h.requests with hsub | ⟨r, j, k, hj, -, rfl, happend⟩
  · have hsame : t.tags = s.tags → t.carriers u ≤ s.carriers u := fun ht => carriers_le hsub (countTags_congr _ ht).le
    cases h with
    | forward r j d hj htag hchannel horder =>
      have hlive : countTags (TagEntry.isLiveWith u) (takeForward j d (emptied s)) =
          countTags (TagEntry.isLiveWith u) s + if j.req.tag = u then 1 else 0 :=
        liveWith_granted (f := flightOf j.req (emptied s)) (lowestFree_free htag)
          (by simp [takeForward, (grant_writes _ _ _).2, emptied, flightOf]) u
      have hreqs := hsub.countP_le (p := fun p => p.tag == u)
      refine carriers_taken hj ?_
      rw [State.carriers, State.carriers, hlive]
      omega
    | scans =>
      rcases releaseScan_cases s with h | ⟨d, n, e, -, htag, -, he, h⟩ <;> rw [h]
      · rw [h] at hsub
        exact .inl (carriers_le hsub (countTags_congr _ (by simp)).le)
      · have hlive : countTags (TagEntry.isLiveWith u) (released n e d (scanned s)) =
            countTags (TagEntry.isLiveWith u) s + if e.req.tag = u then 1 else 0 :=
          liveWith_granted (f := flightOf e.req (scanned s)) (lowestFree_free htag)
            (by simpa [released] using (grant_writes e.req d (scanned s)).2) u
        have hreq : s.requests[n]? = some e.req := by
          rw [← scan_entries_requests s, List.getElem?_map, he]
          rfl
        have hcount := countP_eraseIdx_add (fun p => p.tag == u) hreq
        left
        rw [State.carriers, State.carriers, released_requests, hlive]
        simp only [beq_iff_eq] at hcount
        omega
    | deadline d f ht hzero => exact .inl (carriers_le hsub (countTags_le_of_set rfl (by rw [ht]; exact id)))
    | timeout d f ht hslot =>
      exact .inl (carriers_le hsub (countTags_le_of_set (timeOut_tags d f s)
        (by simp [Flight.orphan, TagEntry.isLiveWith])))
    | relays h f ht =>
      exact .inl (carriers_le hsub (countTags_le_of_set (relay_tags h f _) (by simp [TagEntry.isLiveWith])))
    | late h f ht =>
      exact .inl (carriers_le hsub (countTags_le_of_set (d := h.tag) (e := .free) (by simp [returnOrphan, atHead])
        (by simp [TagEntry.isLiveWith])))
    | ticks hc hdue => exact .inl (carriers_le hsub (countTags_tick fun e => (e.ticked_kept 0 u).2.2).le)
    | frame p v hp hu => exact .inl (hsame hu.tags)
    | _ => exact .inl (hsame (by simp [takeMalformed, takeClash, takeHold, takeRefuse, emptied, leaveRefused, expireForce,
      expireRefuse, noteExpiry, atHead, discardUnknown]))
  · have htags :
        countTags (TagEntry.isLiveWith u) (takeHold j k (emptied s)) = countTags (TagEntry.isLiveWith u) s :=
      countTags_congr _ (by simp [takeHold, emptied])
    refine carriers_taken hj (le_of_eq ?_)
    simp only [State.carriers, happend, htags, List.countP_append, List.countP_singleton, beq_iff_eq]
    omega

/-- No tag stands twice after a reset (R76, R97). -/
theorem tagsUnique_reset {s : State} (hold : s.hold = []) (htags : s.tags = State.reset.tags) : s.TagsUnique := by
  rw [tagsUnique_iff]
  intro u
  rw [State.carriers, countTags_reset htags rfl, State.requests, hold]
  exact Nat.zero_le 1

/-- Settles O7: a tag gains a carrier only where it had none (`Event.carriers`), so none comes to have two. -/
theorem upstreamTagsStayUnique : Obligations.UpstreamTagsStayUnique := by
  unfold Obligations.UpstreamTagsStayUnique
  refine step_keeps (fun s q h => h) (fun c s t _ hs h => ?_) fun c s t hs h => ?_
  · rw [tagsUnique_iff] at hs ⊢
    intro u
    rcases h.carriers u with hle | ⟨-, hone⟩
    · exact hle.trans (hs u)
    · exact hone
  · cases h with
    | powerOn | pin => exact tagsUnique_reset rfl rfl
    | ends p cause hc hphase => exact hs

end Sys2Proof.Machine
end

section
/-! The release scan, entry by entry: each entry is judged behind the older ones as the scan has left them (R80, R81,
R83, R84). -/

namespace Sys2Proof.Machine

/-! ## The judgement of one entry -/

/-- The mode in force: the operating mode, or the resume mode in a transitional state (R83). -/
theorem modeInForce_eq (s : State) :
    modeInForce s = match s.mode with
      | .operating m => m
      | _ => s.resume := by
  unfold modeInForce
  cases s.mode <;> rfl

/-- An older entry of the requester that is not refusal pending blocks (R80). -/
theorem blockedBy_iff {older : List HoldEntry} {e : HoldEntry} :
    blockedBy older e = true ↔ ∃ x ∈ older, x.req.requester = e.req.requester ∧ x.refusal = none := by
  simp [blockedBy]

/-- The entry is refusal pending, or stands behind one of its requester that is not (R80, R83). -/
abbrev Stays (older : List HoldEntry) (e : HoldEntry) : Prop :=
  e.refusal ≠ none ∨ ∃ x ∈ older, x.req.requester = e.req.requester ∧ x.refusal = none

/-- The first question of a judgement, as one proposition. -/
theorem stays_iff {older : List HoldEntry} {e : HoldEntry} :
    (e.refusal.isSome || blockedBy older e) = true ↔ Stays older e := by
  rw [Bool.or_eq_true, blockedBy_iff, Option.isSome_iff_ne_none]

/-- Refusal pending or blocked, an entry stays. -/
theorem judge_stays {s : State} {older : List HoldEntry} {e : HoldEntry} (h : Stays older e) :
    judge s older e = .stays false := by
  rw [judge, if_pos (stays_iff.mpr h)]

/-- Otherwise forcing, the lane and the mode in force decide. -/
theorem judge_free {s : State} {older : List HoldEntry} {e : HoldEntry} (h : ¬ Stays older e) :
    judge s older e = if e.forced then .eligible false else
      match e.req.lane with
      | none => .eligible false
      | some l => judgeOnLane s l := by
  unfold judge
  exact if_neg (mt stays_iff.mp h)

/-- Forced, or without a lane, a free entry is eligible. -/
theorem judge_ungoverned {s : State} {older : List HoldEntry} {e : HoldEntry} (h : ¬ Stays older e)
    (hu : e.forced = true ∨ e.req.lane = none) : judge s older e = .eligible false := by
  rw [judge_free h]
  rcases hu with hu | hu
  · rw [if_pos hu]
  · rw [hu]; exact ite_self _

/-- On a lane, out of GOVERN, a free entry is eligible. -/
theorem judge_notGovern {s : State} {older : List HoldEntry} {e : HoldEntry} (h : ¬ Stays older e)
    (hm : modeInForce s ≠ .govern) : judge s older e = .eligible false := by
  rw [judge_free h]
  split
  · rfl
  · cases e.req.lane with
    | none => rfl
    | some l =>
      simp only [judgeOnLane]
      cases hmode : modeInForce s with
      | bypass | monitor => rfl
      | govern => exact absurd hmode hm

/-- On a lane, in GOVERN, a free and unforced entry meets the lane test. -/
theorem judge_govern {s : State} {older : List HoldEntry} {e : HoldEntry} {l : LaneId} (h : ¬ Stays older e)
    (hf : e.forced = false) (hl : e.req.lane = some l) (hm : modeInForce s = .govern) :
    judge s older e = s.lanes[l].judgeHeld := by
  rw [judge_free h, if_neg (by simp [hf]), hl]
  simp only [judgeOnLane, hm]

/-- An eligible entry is not refusal pending, and none of its requester's older ones blocks it (R80, R83). -/
theorem not_stays_of_eligible {s : State} {older : List HoldEntry} {e : HoldEntry}
    (h : (judge s older e).isEligible = true) : ¬ Stays older e := by
  intro hs
  rw [judge_stays hs] at h
  exact Bool.false_ne_true h

/-- Settles O32, by the questions of `judge` in their order. -/
theorem heldEntryJudged : Obligations.HeldEntryJudged := by
  unfold Obligations.HeldEntryJudged
  intro s older e
  refine ⟨judge_stays, judge_ungoverned, fun h hm => judge_notGovern h fun hg => hm ((modeInForce_eq s).symm.trans hg),
    fun h hf hm l hl => ?_⟩
  rw [judge_govern h hf hl ((modeInForce_eq s).trans hm), ← Lane.hasCredit_iff, ← Lane.hasConcurrency_iff]
  unfold Lane.judgeHeld
  refine ⟨fun hc hk => ?_, fun hc hk => ?_, fun hc hp => ?_, fun hc hp => ?_, fun hc hp hk => ?_, fun hc hp hk => ?_⟩
  · rw [if_pos hc, if_pos hk]
  · rw [if_pos hc, if_neg hk]
  · rw [if_neg hc, hp]
  · rw [if_neg hc, hp]
  · rw [if_neg hc, hp]; exact if_pos hk
  · rw [if_neg hc, hp]; exact if_neg hk

/-! ## The scan -/

/-- The queue a scan leaves begins with the entries it started behind. -/
theorem scan_prefix (s : State) (older rest : List HoldEntry) : older <+: (scan s older rest).entries := by
  induction rest generalizing older with
  | nil => exact List.prefix_rfl
  | cons e rest ih => exact (List.prefix_append older _).trans (ih _)

/-- So an entry at the place `older` ends is judged behind `older`. -/
theorem scan_take (s : State) (older rest : List HoldEntry) : (scan s older rest).entries.take older.length = older :=
  (List.prefix_iff_eq_take.mp (scan_prefix s older rest)).symm

/-- How a scan that has left `q` judged the entry `x` at position `n`. -/
def verdictIn (s : State) (q : List HoldEntry) (n : Nat) (x : HoldEntry) : Judgement := judge s (q.take n) x

/-- The scan judges the entry at its front behind `older`. -/
theorem verdict_front (s : State) (older rest : List HoldEntry) (e x : HoldEntry) :
    verdictIn s (scan s older (e :: rest)).entries older.length x = judge s older x := by
  rw [verdictIn, scan_take]

/-- The places of the queue behind `older` and its next entry. -/
theorem length_append_singleton_add (older : List HoldEntry) (e : HoldEntry) (k : Nat) :
    (older ++ [e]).length + k = older.length + (k + 1) := by
  rw [List.length_append, List.length_singleton]
  omega

/-- Every entry stands in the scanned queue with its judgement applied (R81, R84). -/
theorem scan_entries_getElem? {s : State} {older rest : List HoldEntry} {k : Nat} {e : HoldEntry} (h : rest[k]? = some e) :
    (scan s older rest).entries[older.length + k]? =
      some ((verdictIn s (scan s older rest).entries (older.length + k) e).applied e) := by
  induction rest generalizing older k with
  | nil => simp at h
  | cons x rest ih =>
    cases k with
    | zero =>
      obtain rfl : x = e := by simpa using h
      rw [Nat.add_zero, verdict_front]
      obtain ⟨younger, hq⟩ := scan_prefix s (older ++ [(judge s older x).applied x]) rest
      simp only [scan, ← hq, List.append_assoc, List.singleton_append, List.getElem?_append_right le_rfl, Nat.sub_self,
        List.getElem?_cons_zero]
    | succ k =>
      have hk := ih (older := older ++ [(judge s older x).applied x]) (k := k) (by simpa using h)
      rwa [length_append_singleton_add] at hk

/-- The oldest eligible entry is none of those the scan started behind. -/
theorem scan_first_ge {s : State} {older rest : List HoldEntry} {n : Nat} (h : (scan s older rest).first = some n) :
    older.length ≤ n := by
  induction rest generalizing older with
  | nil => simp [scan] at h
  | cons x rest ih =>
    simp only [scan] at h
    split at h
    · exact (Option.some.inj h).le
    · have hn := ih h
      rw [List.length_append] at hn
      omega

/-- The scan's result is the oldest eligible entry (R81). -/
theorem scan_first_iff {s : State} {older rest : List HoldEntry} {k : Nat} :
    (scan s older rest).first = some (older.length + k) ↔
      (∃ e, rest[k]? = some e ∧ (verdictIn s (scan s older rest).entries (older.length + k) e).isEligible = true) ∧
        ∀ i < k, ∀ x, rest[i]? = some x →
          (verdictIn s (scan s older rest).entries (older.length + i) x).isEligible = false := by
  induction rest generalizing older k with
  | nil => simp [scan]
  | cons x rest ih =>
    have hfront := verdict_front s older rest x x
    have hfirst : (scan s older (x :: rest)).first = if (judge s older x).isEligible then some older.length
      else (scan s (older ++ [(judge s older x).applied x]) rest).first := rfl
    have hbehind := @scan_first_ge s (older ++ [(judge s older x).applied x]) rest
    have hrest := @ih (older ++ [(judge s older x).applied x])
    simp only [length_append_singleton_add] at hrest
    rw [hfirst]
    cases k with
    | zero =>
      simp only [List.getElem?_cons_zero, Option.some.injEq, exists_eq_left', Nat.add_zero, Nat.not_lt_zero,
        false_implies, implies_true, and_true, hfront]
      split
      · simp [*]
      · next hnot =>
        refine ⟨fun h => ?_, fun h => absurd h hnot⟩
        have hge := hbehind h
        rw [List.length_append, List.length_singleton] at hge
        omega
    | succ k =>
      split
      · next helig =>
        refine ⟨fun h => by simp at h, fun ⟨_, h⟩ => ?_⟩
        have hnot := h 0 (Nat.succ_pos k) x rfl
        rw [Nat.add_zero, hfront, helig] at hnot
        exact absurd hnot Bool.true_eq_false.mp
      · next hnot =>
        rw [hrest]
        refine and_congr Iff.rfl ⟨fun h i hi y hy => ?_, fun h i hi y hy => h (i + 1) (Nat.succ_lt_succ hi) y hy⟩
        cases i with
        | zero =>
          obtain rfl : x = y := by simpa using hy
          rw [Nat.add_zero, hfront]
          exact Bool.eq_false_of_not_eq_true hnot
        | succ i => exact h i (Nat.lt_of_succ_lt_succ hi) y hy

/-- The lanes a scan lists are those its tests found short of credit (R51, R84). -/
theorem mem_scan_shorts {s : State} {older rest : List HoldEntry} {l : LaneId} :
    l ∈ (scan s older rest).shorts ↔ ∃ i x, rest[i]? = some x ∧
      l ∈ (verdictIn s (scan s older rest).entries (older.length + i) x).shortLane x := by
  induction rest generalizing older with
  | nil => simp [scan]
  | cons x rest ih =>
    have hfront := verdict_front s older rest x x
    have hshorts : (scan s older (x :: rest)).shorts =
      (judge s older x).shortLane x ++ (scan s (older ++ [(judge s older x).applied x]) rest).shorts := rfl
    rw [hshorts, List.mem_append, ih]
    simp only [length_append_singleton_add]
    constructor
    · rintro (h | ⟨i, y, hy, h⟩)
      · exact ⟨0, x, rfl, by rwa [Nat.add_zero, hfront]⟩
      · exact ⟨i + 1, y, hy, h⟩
    · rintro ⟨i, y, hy, h⟩
      cases i with
      | zero =>
        obtain rfl : x = y := by simpa using hy
        rw [Nat.add_zero, hfront] at h
        exact .inl h
      | succ i => exact .inr ⟨i, y, hy, h⟩

/-- A judgement found the lane short of credit exactly when it made the test and found none (R51). -/
theorem mem_shortLane {v : Judgement} {x : HoldEntry} {l : LaneId} :
    l ∈ v.shortLane x ↔ x.req.lane = some l ∧ (v = .stays true ∨ v = .eligible true ∨ v = .refused) := by
  have hshort : v.isShort = true ↔ v = .stays true ∨ v = .eligible true ∨ v = .refused := by
    cases v <;> simp [Judgement.isShort]
  unfold Judgement.shortLane
  split
  · next h => simp [hshort.mp h]
  · next h => simp [mt hshort.mpr h]

/-- A judgement refuses an entry that is not refusal pending alone (R81). -/
theorem refusal_of_judge_refused {s : State} {older : List HoldEntry} {e : HoldEntry} (h : judge s older e = .refused) :
    e.refusal = none := by
  by_contra hne
  rw [judge_stays (.inl hne)] at h
  cases h

/-- An entry its lane refuses becomes refusal pending with REFUSED_RATE; every other stays as it was (R81, R84). -/
theorem applied_verdict {s : State} {q : List HoldEntry} {n : Nat} {e : HoldEntry} :
    (verdictIn s q n e).applied e = if verdictIn s q n e = .refused then { e with refusal := some .rate } else e := by
  cases hv : verdictIn s q n e with
  | stays b | eligible b => rfl
  | refused =>
    have hnone := refusal_of_judge_refused hv
    rw [if_pos rfl]
    simp [Judgement.applied, HoldEntry.refuse, hnone]

/-- Settles O33, from the scan's three results behind no older entry. -/
theorem scanJudgesOldestFirst : Obligations.ScanJudgesOldestFirst := by
  unfold Obligations.ScanJudgesOldestFirst
  intro s k e he
  have hentry := scan_entries_getElem? (s := s) (older := []) he
  have hfirst := @scan_first_iff s [] s.hold k
  have hshorts := fun l => @mem_scan_shorts s [] s.hold l
  simp only [List.length_nil, Nat.zero_add, mem_shortLane] at hentry hfirst hshorts
  refine ⟨?_, ?_, ?_, hshorts⟩
  · rw [scan_length]; exact Nat.zero_add _
  · rw [hentry, applied_verdict]; rfl
  · rw [hfirst, he]
    simp only [Option.some.injEq, exists_eq_left']
    rfl

/-! ## What an arrival asks of the queue (R85) -/

/-- Some entry behind `older` is eligible, each behind the ones older than it as they stand (R83). -/
theorem someEligible_iff {s : State} {older rest : List HoldEntry} :
    someEligible s older rest = true ↔
      ∃ n e, rest[n]? = some e ∧ (judge s (older ++ rest.take n) e).isEligible = true := by
  induction rest generalizing older with
  | nil => simp [someEligible]
  | cons x rest ih =>
    rw [someEligible, Bool.or_eq_true, ih]
    constructor
    · rintro (h | ⟨n, e, he, h⟩)
      · exact ⟨0, x, rfl, by simpa using h⟩
      · exact ⟨n + 1, e, he, by simpa using h⟩
    · rintro ⟨n, e, he, h⟩
      cases n with
      | zero =>
        obtain rfl : x = e := by simpa using he
        exact .inl (by simpa using h)
      | succ n => exact .inr ⟨n, e, he, by simpa using h⟩

end Sys2Proof.Machine
end

section
/-! The order of a requester's requests (R80), and the Mode Controller's consistency under every event (R147, R150,
R155, R160). -/

namespace Sys2Proof.Machine

/-! ## The entry a scan grants -/

/-- An eligible entry stays as it was (R81). -/
theorem Judgement.applied_of_eligible {v : Judgement} (h : v.isEligible = true) (e : HoldEntry) : v.applied e = e := by
  cases v with
  | stays b | refused => exact absurd h Bool.false_ne_true
  | eligible b => rfl

/-- The oldest eligible entry stands where it stood, unchanged, and nothing keeps it there (R80, R81). -/
theorem scan_first_entry {s : State} {n : Nat} (h : (scan s [] s.hold).first = some n) :
    ∃ e, s.hold[n]? = some e ∧ (scan s [] s.hold).entries[n]? = some e ∧
      ¬ Stays ((scan s [] s.hold).entries.take n) e := by
  have hfirst := @scan_first_iff s [] s.hold n
  simp only [List.length_nil, Nat.zero_add] at hfirst
  obtain ⟨⟨e, he, helig⟩, -⟩ := hfirst.mp h
  have hentry := scan_entries_getElem? (s := s) (older := []) he
  simp only [List.length_nil, Nat.zero_add, Judgement.applied_of_eligible helig] at hentry
  exact ⟨e, he, hentry, not_stays_of_eligible helig⟩

/-! ## Requester order (R80) -/

/-- What a record newly on offer downstream is: an arrival of a requester with nothing held, or the entry a scan
granted (R13, R87). -/
theorem Event.offers {c : Instr} {s t : State} (h : Event c s t) {d : DownRequest} (hfree : s.downRequest = none)
    (hd : t.downRequest = some d) :
    hasHeld d.requester s = false ∨ ∃ g n e, (scan s [] s.hold).first = some n ∧
      (scan s [] s.hold).entries[n]? = some e ∧ t = released n e g (scanned s) ∧ d.requester = e.req.requester := by
  cases h with
  | forward r j g hj htag hchannel horder =>
    left
    have hrecord : downRecord j.req g = d := by simpa [takeForward, grant] using hd
    rw [← hrecord]
    exact horder
  | scans =>
    right
    rcases releaseScan_cases s with h | ⟨g, n, e, -, -, hfirst, he, h⟩
    · rw [h] at hd
      simp [hfree] at hd
    · have hrecord : downRecord e.req g = d := by simpa [h, released, grant] using hd
      exact ⟨g, n, e, hfirst, he, h, by rw [← hrecord]; rfl⟩
  | frame p u hp hu => cases hu <;> simp [resumed, restartFrom, hfree] at hd
  | _ => simp [takeMalformed, takeClash, takeHold, takeRefuse, emptied, leaveRefused, expireForce, expireRefuse,
      noteExpiry, timeOut, relay, leaveLive, atHead, returnOrphan, discardUnknown, hfree] at hd

/-- A record newly on offer downstream is not ahead of an older request of its requester (R80). -/
theorem Event.requesterOrder {c : Instr} {s t : State} (h : Event c s t) {d : DownRequest} (hfree : s.downRequest = none)
    (hd : t.downRequest = some d) :
    (∀ e ∈ s.hold, e.req.requester ≠ d.requester) ∨
      ∃ n e, s.hold[n]? = some e ∧ e.req.requester = d.requester ∧
        t.hold.map HoldEntry.req = (s.hold.map HoldEntry.req).eraseIdx n ∧
        ∀ m < n, ∀ x, t.hold[m]? = some x → x.req.requester = d.requester → x.refusal.isSome = true := by
  rcases h.offers hfree hd with hnone | ⟨g, n, e, hfirst, he, rfl, hreq⟩
  · exact .inl (by simpa [hasHeld] using hnone)
  · right
    obtain ⟨x, hx, hx', hunblocked⟩ := scan_first_entry hfirst
    obtain rfl : x = e := Option.some.inj (hx'.symm.trans he)
    refine ⟨n, x, hx, hreq.symm, released_requests g, fun m hm y hy hyreq => ?_⟩
    simp only [released, bringOn_fields, scanned_fields, List.getElem?_eraseIdx_of_lt hm] at hy
    by_contra hpending
    exact hunblocked (.inr ⟨y, List.mem_of_getElem? ((List.getElem?_take_of_lt hm).trans hy), hyreq.trans hreq,
      by simpa using hpending⟩)

/-- Settles O14: an arrival goes ahead when nothing of its requester is held, and a scan grants an entry that nothing
of its requester blocks (`Event.requesterOrder`). -/
theorem requesterOrderKept : Obligations.RequesterOrderKept := by
  unfold Obligations.RequesterOrderKept
  intro s t d hstep hfree hd
  unfold step at hstep
  split at hstep
  · cases hstep
    exact absurd (hfree.symm.trans hd) (by simp)
  · rcases exec_next_cases hstep with rfl | ⟨-, h⟩ | h
    · exact absurd (hfree.symm.trans hd) (by simp)
    · exact h.requesterOrder hfree hd
    · cases h <;> simp [heldInReset, State.reset, leaveReset, hfree] at hd

/-! ## The held entries under every event -/

/-- What holds of a held entry whatever the events do to it while it is held. -/
structure Lasting (P : HoldEntry → Prop) : Prop where
  refuse : ∀ r e, P e → P (e.refuse r)
  force : ∀ e, P e → P e.force
  ticked : ∀ e, P e → P e.ticked
  aged : ∀ e : HoldEntry, P e → P { e with aged := true }

/-- An update of one entry that keeps `P` keeps it for all. -/
theorem forall_mem_modify {P : HoldEntry → Prop} {q : List HoldEntry} {n : Nat} {f : HoldEntry → HoldEntry}
    (hf : ∀ e, P e → P (f e)) (hq : ∀ e ∈ q, P e) : ∀ e ∈ q.modify n f, P e := by
  induction q generalizing n with
  | nil => simp
  | cons x q ih =>
    obtain ⟨hx, hq⟩ := List.forall_mem_cons.mp hq
    cases n with
    | zero => exact List.forall_mem_cons.mpr ⟨hf x hx, hq⟩
    | succ n => exact List.forall_mem_cons.mpr ⟨hx, ih hq⟩

/-- A FORCE cascade keeps what lasts (R91). -/
theorem forall_mem_forceCascade {P : HoldEntry → Prop} (hP : Lasting P) {n : Nat} {e : HoldEntry} {q : List HoldEntry}
    (hq : ∀ x ∈ q, P x) : ∀ x ∈ forceCascade n e q, P x := by
  intro x hx
  obtain ⟨i, hi, rfl⟩ := List.mem_mapIdx.mp hx
  have hi' := hq q[i] (List.getElem_mem hi)
  split
  · exact hP.force _ hi'
  · exact hi'

/-- A scan keeps what lasts (R81). -/
theorem forall_mem_scan {P : HoldEntry → Prop} (hP : Lasting P) {s : State} (hq : ∀ x ∈ s.hold, P x) :
    ∀ x ∈ (scan s [] s.hold).entries, P x := by
  intro x hx
  obtain ⟨k, hk, rfl⟩ := List.mem_iff_getElem.mp hx
  have hk' : k < s.hold.length := by simpa [scan_length] using hk
  have hentry := scan_entries_getElem? (s := s) (older := []) (List.getElem?_eq_getElem hk')
  simp only [List.length_nil, Nat.zero_add, List.getElem?_eq_getElem hk, Option.some.injEq] at hentry
  rw [hentry]
  have hheld := hq _ (List.getElem_mem hk')
  cases verdictIn s (scan s [] s.hold).entries k s.hold[k] with
  | stays b | eligible b => exact hheld
  | refused => exact hP.refuse .rate _ hheld

/-- Every event keeps what lasts of the held entries, if what a taken hold joins with has it. -/
theorem Event.heldEntries {P : HoldEntry → Prop} (hP : Lasting P) {c : Instr} {s t : State} (h : Event c s t)
    (hs : ∀ e ∈ s.hold, P e) (hnew : ∀ (r : Request) (j : Judged) k, j.Of r s → P (heldEntry j.req k s)) :
    ∀ e ∈ t.hold, P e := by
  cases h with
  | hold r j k hj hroom =>
    have hhold : (takeHold j k (emptied s)).hold = s.hold ++ [heldEntry j.req k s] := by
      simp [takeHold, emptied, heldEntry]
    rw [hhold]
    exact List.forall_mem_append.mpr ⟨hs, by simpa using hnew r j k hj⟩
  | scans =>
    have hscan := forall_mem_scan hP hs
    rcases releaseScan_cases s with h | ⟨g, n, e, -, -, -, -, h⟩ <;> rw [h]
    · simpa using hscan
    · simp only [released, bringOn_fields, scanned_fields]
      exact fun x hx => hscan x (List.mem_of_mem_eraseIdx hx)
  | leave n e r hn he hr hslot =>
    simp only [judgeDrained_fields, leaveRefused, bringOn_fields, recordLeaving_fields]
    exact fun x hx => hs x (List.mem_of_mem_eraseIdx hx)
  | aged n => simpa using forall_mem_modify hP.aged hs
  | forced n e he => simpa [expireForce, noteExpiry] using forall_mem_forceCascade hP hs
  | expired n e he => simpa [expireRefuse, noteExpiry] using forall_mem_modify (hP.refuse .expired) hs
  | ticks hc hdue => simpa using fun e he => hP.ticked e (hs e he)
  | quiesceForced hdue => simpa using fun e he => hP.refuse .withdrawn e (hs e he)
  | frame p u hp hu =>
    cases hu with
    | restart back hm => simpa [restartFrom] using fun e he => hP.refuse .withdrawn e (hs e he)
    | _ => simpa [resumed] using hs
  | _ => simpa [takeMalformed, takeClash, takeForward, takeRefuse, emptied, timeOut, relay, leaveLive, atHead,
      returnOrphan, discardUnknown] using hs

/-! ## The Mode Controller -/

/-- `ModeSound` but for the drained states that a completion is still to end (R155, R160). -/
def State.ModeSettling (s : State) : Prop :=
  match s.mode with
  | .operating m => s.resume = m ∧ s.quiesceTimer = none
  | .quiescing => True
  | .quiesced => s.hold = [] ∧ liveTotal s = 0 ∧ s.quiesceTimer = none
  | .restarting => (∀ e ∈ s.hold, e.refusal.isSome = true) ∧ s.quiesceTimer = none

/-- A state that settles is sound once neither completion is due. -/
theorem modeSound_of_settling {s : State} (hrun : s.phase = .running) (hs : s.ModeSettling)
    (hq : ¬ (s.mode = .quiescing ∧ s.hold = [] ∧ liveTotal s = 0)) (hr : ¬ (s.mode = .restarting ∧ s.hold = [])) :
    s.ModeSound := by
  refine ⟨.inl hrun, ?_⟩
  unfold State.ModeSettling at hs
  cases hm : s.mode with
  | operating m | quiesced => simpa only [hm] using hs
  | quiescing =>
    simp only [hm, true_and] at hq
    exact or_iff_not_imp_left.mpr fun h => fun h' => hq ⟨not_not.mp h, h'⟩
  | restarting =>
    simp only [hm, true_and] at hr hs
    exact ⟨hr, hs⟩

/-- A sound state settles. -/
theorem State.ModeSound.settling {s : State} (h : s.ModeSound) : s.ModeSettling := by
  obtain ⟨-, h⟩ := h
  unfold State.ModeSettling
  cases hm : s.mode with
  | operating m | quiesced => simpa only [hm] using h
  | quiescing => trivial
  | restarting => simp only [hm] at h; exact h.2

/-- The completions make a state that settles sound (R155, R160). -/
theorem judgeDrained_modeSound {s : State} (hrun : s.phase = .running) (hs : s.ModeSettling) :
    (judgeDrained s).ModeSound := by
  rcases judgeDrained_cases s with ⟨⟨hm, hhold, hlive⟩, h⟩ | ⟨⟨hm, -⟩, h⟩ | ⟨hq, hr, h⟩ <;> rw [h]
  · have hlive' : liveTotal (raise .quiesceDone (enter .quiesced { s with quiesceTimer := none })) = 0 := by
      rw [liveTotal, countTags_congr _ (by simp : _ = s.tags)]
      exact hlive
    exact ⟨.inl (by simpa using hrun), by simpa [hhold] using hlive'⟩
  · simp only [State.ModeSettling, hm] at hs
    exact ⟨.inl (by simpa using hrun), by simpa [enter] using hs.2⟩
  · exact modeSound_of_settling hrun hs hq hr

/-- A sound state stays sound when the mode stays, what is held and LIVE stays in number, and what is refusal pending
stays so. -/
theorem State.ModeSound.kept {s t : State} (h : s.ModeSound) (hrun : t.phase = .running) (hmode : t.mode = s.mode)
    (hresume : t.resume = s.resume) (htimer : s.quiesceTimer = none → t.quiesceTimer = none)
    (hempty : t.hold = [] ↔ s.hold = [])
    (hrefused : s.mode = .restarting → (∀ e ∈ s.hold, e.refusal.isSome = true) → ∀ e ∈ t.hold, e.refusal.isSome = true)
    (hlive : liveTotal t = liveTotal s) : t.ModeSound := by
  refine ⟨.inl hrun, ?_⟩
  obtain ⟨-, h⟩ := h
  rw [hmode]
  cases hm : s.mode with
  | operating m => simp only [hm] at h; exact ⟨hresume.trans h.1, htimer h.2⟩
  | quiescing => simp only [hm] at h; rwa [ne_eq, hempty, hlive]
  | quiesced => simp only [hm] at h; exact ⟨hempty.mpr h.1, hlive.trans h.2.1, htimer h.2.2⟩
  | restarting => simp only [hm] at h; exact ⟨mt hempty.mp h.1, hrefused hm h.2.1, htimer h.2.2⟩

/-- A sound state stays sound when nothing the Mode Controller looks at changes. -/
theorem State.ModeSound.same {s t : State} (h : s.ModeSound) (hrun : t.phase = .running)
    (hsame : t.mode = s.mode ∧ t.resume = s.resume ∧ t.quiesceTimer = s.quiesceTimer ∧ t.hold = s.hold ∧
      t.tags = s.tags) : t.ModeSound := by
  obtain ⟨hmode, hresume, htimer, hhold, htags⟩ := hsame
  exact h.kept hrun hmode hresume htimer.trans (by rw [hhold]) (by rw [hhold]; exact fun _ => id) (countTags_congr _ htags)

/-- In an operating mode only the resume mode and the timer matter (R147). -/
theorem State.ModeSound.operating {s t : State} {m : Mode} (h : s.ModeSound) (hm : s.mode = .operating m)
    (hrun : t.phase = .running)
    (hsame : t.mode = s.mode ∧ t.resume = s.resume ∧ t.quiesceTimer = s.quiesceTimer) : t.ModeSound := by
  refine ⟨.inl hrun, ?_⟩
  obtain ⟨hmode, hresume, htimer⟩ := hsame
  obtain ⟨-, h⟩ := h
  simp only [hm] at h
  simpa only [hmode, hm, hresume, htimer] using h

/-- An event other than a reset's leaves the governor running. -/
theorem Event.phase {c : Instr} {s t : State} (h : Event c s t) : t.phase = s.phase := by
  cases h with
  | scans => rcases releaseScan_cases s with h | ⟨g, n, e, -, -, -, -, h⟩ <;> simp [h, released]
  | frame p u hp hu => cases hu <;> simp [resumed, restartFrom]
  | _ => simp [takeMalformed, takeClash, takeForward, takeHold, takeRefuse, emptied, leaveRefused, expireForce,
      expireRefuse, noteExpiry, timeOut, relay, leaveLive, atHead, returnOrphan, discardUnknown]

/-- Withdrawal leaves every held entry refusal pending (R93). -/
theorem refused_of_withdrawn {q : List HoldEntry} :
    ∀ e ∈ q.map (HoldEntry.refuse .withdrawn), e.refusal.isSome = true := by
  simp only [List.mem_map, forall_exists_index, and_imp, forall_apply_eq_imp_iff₂]
  intro e _
  cases he : e.refusal <;> simp [HoldEntry.refuse, he]

/-- Refusal pending lasts (R93). -/
theorem refusal_lasting : Lasting fun e => e.refusal.isSome = true where
  refuse r e h := by simp [HoldEntry.refuse]
  force e h := h
  ticked e h := h
  aged e h := h

/-- In RESTARTING no request is taken, so all that is held stays refusal pending (R7, R159). -/
theorem Event.refused {c : Instr} {s t : State} (h : Event c s t) (hm : s.mode = .restarting)
    (hs : ∀ e ∈ s.hold, e.refusal.isSome = true) : ∀ e ∈ t.hold, e.refusal.isSome = true := by
  refine h.heldEntries refusal_lasting hs fun r j k hj => ?_
  obtain ⟨-, -, -, m, hop, -⟩ := hj.facts
  rw [hm] at hop
  cases hop

/-- A state that settles goes on settling when what is held and what is LIVE only becomes less. -/
theorem State.ModeSettling.shrinks {s t : State} (h : s.ModeSettling) (hmode : t.mode = s.mode)
    (hresume : t.resume = s.resume) (htimer : t.quiesceTimer = s.quiesceTimer) (hhold : t.hold ⊆ s.hold)
    (hlive : liveTotal t ≤ liveTotal s) : t.ModeSettling := by
  unfold State.ModeSettling at h ⊢
  rw [hmode, hresume, htimer]
  cases hm : s.mode with
  | operating m => simpa only [hm] using h
  | quiescing => trivial
  | quiesced =>
    simp only [hm] at h
    exact ⟨List.subset_nil.mp (h.1 ▸ hhold), Nat.le_zero.mp (h.2.1 ▸ hlive), h.2.2⟩
  | restarting => simp only [hm] at h; exact ⟨fun e he => h.1 e (hhold he), h.2⟩

/-- In QUIESCING the quiesce's completion is the only one due. -/
theorem judgeDrained_of_quiescing {s : State} (hm : s.mode = .quiescing) : judgeDrained s = completeQuiesce s := by
  rcases judgeDrained_cases s with ⟨hd, h⟩ | ⟨⟨hm', -⟩, -⟩ | ⟨hd, -, h⟩
  · rw [h, completeQuiesce, if_pos hd]
  · rw [hm] at hm'; cases hm'
  · rw [h, completeQuiesce, if_neg hd]

/-- In RESTARTING the RESTART's completion is the only one due. -/
theorem judgeDrained_of_restarting {s : State} (hm : s.mode = .restarting) : judgeDrained s = completeRestart s := by
  rcases judgeDrained_cases s with ⟨⟨hm', -⟩, -⟩ | ⟨hd, h⟩ | ⟨-, hd, h⟩
  · rw [hm] at hm'; cases hm'
  · rw [h, completeRestart, if_pos hd]
  · rw [h, completeRestart, if_neg hd]

/-- A frame keeps the Mode Controller consistent. -/
theorem Written.modeSound {c : Instr} {s u : State} (hrun : s.phase = .running) (hs : s.ModeSound) (hu : Written c s u) :
    u.ModeSound := by
  cases hu with
  | sameMode m hm =>
    obtain ⟨-, h⟩ := hs
    simp only [hm] at h
    exact ⟨.inl hrun, by simp [hm, h.2]⟩
  | mode m now hm =>
    obtain ⟨-, h⟩ := hs
    simp only [hm] at h
    exact ⟨.inl (by simpa using hrun), by simp [h.2, enter]⟩
  | quiesce now hm =>
    rw [← judgeDrained_of_quiescing (by simp [enter])]
    exact judgeDrained_modeSound (by simpa using hrun) (by simp [State.ModeSettling])
  | resume hm => exact ⟨.inl (by simpa [resumed] using hrun), by simp [resumed, enter]⟩
  | restart back hm =>
    have htimer : s.quiesceTimer = none := by
      obtain ⟨-, h⟩ := hs
      rcases hm with hm | ⟨hm, -⟩ <;> simp only [hm] at h
      · exact h.2
      · exact h.2.2
    rw [restartFrom, ← judgeDrained_of_restarting (by simp [enter])]
    refine judgeDrained_modeSound (by simpa using hrun) ?_
    simpa [State.ModeSettling, enter, htimer] using refused_of_withdrawn (q := s.hold)
  | nothing => exact hs
  | _ => exact hs.same (by simpa using hrun) (by simp)

/-- A release scan keeps the Mode Controller consistent: what QUIESCING releases becomes LIVE, QUIESCED holds nothing,
and in RESTARTING nothing is eligible (R83). -/
theorem State.ModeSound.released {s : State} (hs : s.ModeSound) (hrun : s.phase = .running) :
    (releaseScan s).ModeSound := by
  rcases releaseScan_cases s with h | ⟨g, n, e, -, htag, hfirst, he, h⟩ <;> rw [h]
  · refine hs.kept (by simpa using hrun) (by simp) (by simp) (by simp) ?_ (fun _ hq => ?_) (countTags_congr _ (by simp))
    · rw [← List.length_eq_zero_iff, ← List.length_eq_zero_iff]
      simp [scan_length]
    · simpa using forall_mem_scan refusal_lasting hq
  · obtain ⟨x, hx, -, hfree⟩ := scan_first_entry hfirst
    have hx' := List.mem_of_getElem? hx
    refine ⟨.inl (by simpa [Machine.released] using hrun), ?_⟩
    have hmode : (Machine.released n e g (scanned s)).mode = s.mode := by simp [Machine.released]
    obtain ⟨-, hs⟩ := hs
    rw [hmode]
    cases hm : s.mode with
    | operating m => simp only [hm] at hs; simpa [Machine.released] using hs
    | quiescing =>
      right
      have hcount := countTags_of_set (s := s) (u := Machine.released n e g (scanned s)) (t := g)
        (e := .live (flightOf e.req (scanned s))) TagEntry.isLive
        (by simpa [Machine.released] using (grant_writes e.req g (scanned s)).2)
      rw [lowestFree_free htag] at hcount
      simp only [TagEntry.isLive, Bool.false_eq_true, if_false, if_true] at hcount
      unfold liveTotal
      omega
    | quiesced => simp only [hm] at hs; rw [hs.1] at hx'; cases hx'
    | restarting =>
      simp only [hm] at hs
      exact absurd (.inl (Option.isSome_iff_ne_none.mp (hs.2.1 x hx'))) hfree

/-- Every event keeps the Mode Controller consistent. -/
theorem Event.modeSound {c : Instr} {s t : State} (hrun : s.phase = .running) (hs : s.ModeSound) (h : Event c s t) :
    t.ModeSound := by
  have hrun' : t.phase = .running := h.phase.trans hrun
  have hrefused := h.refused
  cases h with
  | forward r j g hj htag hchannel horder =>
    obtain ⟨-, -, -, m, hm, -⟩ := hj.facts
    exact hs.operating hm hrun' (by simp [takeForward, emptied])
  | hold r j k hj hroom =>
    obtain ⟨-, -, -, m, hm, -⟩ := hj.facts
    exact hs.operating hm hrun' (by simp [takeHold, emptied])
  | scans => exact hs.released hrun
  | leave n e r hn he hr hslot =>
    refine judgeDrained_modeSound (by simpa [leaveRefused] using hrun) (hs.settling.shrinks (by simp [leaveRefused])
      (by simp [leaveRefused]) (by simp [leaveRefused]) ?_ (countTags_congr _ (by simp [leaveRefused])).le)
    simpa [leaveRefused] using (List.eraseIdx_sublist s.hold n).subset
  | timeout g f ht hslot =>
    rw [timeOut_eq_judgeDrained]
    refine judgeDrained_modeSound (by simpa [timedOut, timeoutRaised, leaveLive] using hrun)
      (hs.settling.shrinks ?_ ?_ ?_ ?_
      (countTags_le_of_set (timedOut_writes g f s).1 (by simp [Flight.orphan, TagEntry.isLive]))) <;>
      simp [timedOut, timeoutRaised, leaveLive]
  | relays h f ht =>
    refine judgeDrained_modeSound (by simpa [leaveLive, atHead] using hrun)
      (hs.settling.shrinks ?_ ?_ ?_ ?_
      (countTags_le_of_set (leaveLive_writes h.tag f .free _).1 (by simp [TagEntry.isLive]))) <;>
      simp [leaveLive, atHead]
  | aged n => exact hs.kept hrun' (by simp) (by simp) (by simp) (by simp) hrefused (countTags_congr _ (by simp))
  | forced n e he =>
    exact hs.kept hrun' (by simp [expireForce, noteExpiry]) (by simp [expireForce, noteExpiry])
      (by simp [expireForce, noteExpiry]) (by simp [expireForce, noteExpiry, forceCascade]) hrefused
      (countTags_congr _ (by simp [expireForce, noteExpiry]))
  | expired n e he =>
    exact hs.kept hrun' (by simp [expireRefuse, noteExpiry]) (by simp [expireRefuse, noteExpiry])
      (by simp [expireRefuse, noteExpiry]) (by simp [expireRefuse, noteExpiry]) hrefused
      (countTags_congr _ (by simp [expireRefuse, noteExpiry]))
  | quiesceForced hdue =>
    exact hs.kept hrun' (by simp) (by simp) (by simp) (by simp) hrefused (countTags_congr _ (by simp))
  | deadline g f ht hzero =>
    have hcount := countTags_setTag TagEntry.isLive g (.live { f with timeoutPending := true }) s
    rw [ht] at hcount
    exact hs.kept hrun' (by simp) (by simp) (by simp) (by simp) hrefused (Nat.add_right_cancel hcount)
  | late h f ht =>
    have htags : (returnOrphan h f (atHead h s)).tags = s.tags.set h.tag .free := by simp [returnOrphan, atHead]
    have hcount := countTags_of_set TagEntry.isLive htags
    rw [ht] at hcount
    exact hs.kept hrun' (by simp [returnOrphan, atHead]) (by simp [returnOrphan, atHead])
      (by simp [returnOrphan, atHead]) (by simp [returnOrphan, atHead]) hrefused (Nat.add_right_cancel hcount)
  | frame p u hp hu => exact (hu.modeSound hrun hs).same hrun' (by simp)
  | ticks hc hdue =>
    refine hs.kept hrun' (by simp) (by simp) (by simp) (by simp) hrefused (countTags_tick fun e => ?_)
    exact (e.ticked_kept 0 0).1
  | _ =>
    exact hs.same hrun' (by simp [takeMalformed, takeClash, takeRefuse, emptied, atHead, discardUnknown])

/-- Settles O12, event by event (`Event.modeSound`); a reset stands in the start mode, and so does its end (R150). -/
theorem modeControllerStaysConsistent : Obligations.ModeControllerStaysConsistent := by
  unfold Obligations.ModeControllerStaysConsistent
  refine step_keeps (fun s q h => h) (fun c s t hrun hs h => h.modeSound hrun hs) fun c s t hs h => ?_
  cases h with
  | powerOn | pin => exact ⟨.inr ⟨rfl, rfl⟩, rfl, rfl⟩
  | ends p cause hc hphase =>
    obtain ⟨hheld, -⟩ := hs
    rcases hheld with hrun | ⟨-, htimer⟩
    · rw [hrun] at hphase; cases hphase
    · exact ⟨.inl rfl, rfl, htimer⟩

end Sys2Proof.Machine
end

section
/-! What every event notes: in the Event Unit raises alone, in the Capture Log arrivals alone, in the Fault Unit counts
alone, but for the frames that clear them (R128, R130, R133, R134, R141, R143). -/

namespace Sys2Proof.Machine

/-! ## Raises and records -/

/-- The flag's raise carries no member (R134). -/
def Flag.plain : Flag → Bool
  | .watermark | .exhausted | .commitDone => false
  | _ => true

/-- From `s` to `t` the Event Unit was only raised and the Capture Log only reached by records. -/
inductive Noted (s : State) : State → Prop
  | same {t : State} (hlog : t.log = s.log) (hevents : t.events = s.events) : Noted s t
  | raises {t : State} (f : Flag) (hf : f.plain = true) (h : Noted s t) : Noted s (raise f t)
  | watermark {t : State} (l : LaneId) (h : Noted s t) : Noted s (raiseWatermark l t)
  | exhausted {t : State} (l : LaneId) (h : Noted s t) : Noted s (raiseExhausted l t)
  | commitDone {t : State} (g : Gen) (h : Noted s t) : Noted s (raiseCommitDone g t)
  | record {t : State} (b : RecordBody) (h : Noted s t) : Noted s (logRecord b t)
  | kept {t u : State} (h : Noted s t) (hlog : u.log = t.log) (hevents : u.events = t.events) : Noted s u

namespace Noted

variable {s t : State}

theorem refl (s : State) : Noted s s := .same rfl rfl

theorem fault (h : Noted s t) (k : FaultKind) (d : FaultDetails) : Noted s (countFault k d t) :=
  .raises .fault rfl (h.kept rfl rfl)

theorem noteExhausted (h : Noted s t) (l : LaneId) : Noted s (noteExhausted l t) := by
  rcases noteExhausted_cases l t with ⟨-, heq⟩ | ⟨-, heq⟩ <;> rw [heq]
  · exact h
  · exact .exhausted l (h.kept rfl rfl)

theorem noteShort (h : Noted s t) (lane : Option LaneId) (short : Bool) : Noted s (noteShort lane short t) := by
  cases lane with
  | none => exact h
  | some l => cases short with
    | false => exact h
    | true => exact h.noteExhausted l

theorem noteShorts (h : Noted s t) (ls : List LaneId) : Noted s (noteShorts ls t) := by
  induction ls generalizing t with
  | nil => exact h
  | cons l ls ih => exact ih (h.noteExhausted l)

theorem noteWatermark (h : Noted s t) (l : LaneId) : Noted s (noteWatermark l t) := by
  unfold Machine.noteWatermark
  split
  · exact .watermark l (h.kept rfl rfl)
  · exact h

theorem charge (h : Noted s t) (l : LaneId) (cost : Nat) : Noted s (charge l cost t) := by
  have hlane : Noted s (updateLane l (Lane.charged cost) t) := h.kept rfl rfl
  have htested : Noted s (if t.lanes[l].hasCredit then updateLane l (Lane.charged cost) t
      else Machine.noteExhausted l (updateLane l (Lane.charged cost) t)) := by
    split
    · exact hlane
    · exact hlane.noteExhausted l
  exact htested.noteWatermark l

theorem grant (h : Noted s t) (p : Passage) (d : DownTag) : Noted s (grant p d t) := by
  have hcharge : Noted s (chargeFor p t) := by
    unfold chargeFor
    split
    · exact h
    · split
      · exact h
      · exact h.charge _ _
      · exact h.charge _ _
  exact hcharge.kept (by simp [Machine.grant]) (by simp [Machine.grant])

theorem logRefusal (h : Noted s t) (b : Bool) (r : RecordRequest) (lane : Option LaneId) (rule : Option RuleId)
    (st : Status) : Noted s (logRefusal b r lane rule st t) := by
  cases b with
  | false => exact h
  | true => exact .record _ h

theorem logScreenMark (h : Noted s t) (j : Judged) (shown : Shown) : Noted s (logScreenMark j shown t) := by
  unfold Machine.logScreenMark
  split
  · exact .record _ h
  · exact h

theorem triggers (h : Noted s t) (p : Passage) (shown : Shown) : Noted s (evaluateTriggers p shown t) := by
  unfold evaluateTriggers
  split
  · exact .record _ (h.kept rfl rfl)
  · exact h

theorem noteOverflow (h : Noted s t) (j : Judged) (st : Status) : Noted s (noteOverflow j st t) := by
  unfold Machine.noteOverflow
  split
  · exact h.fault _ _
  · exact h

theorem noteExpiry (h : Noted s t) (e : HoldEntry) : Noted s (noteExpiry e t) := .raises .holdExpired rfl (h.fault _ _)

theorem noteOrphans (h : Noted s t) : Noted s (noteOrphans t) := by
  unfold Machine.noteOrphans
  split
  · exact .raises .tagsLow rfl h
  · exact h

theorem recordLeaving (h : Noted s t) (e : HoldEntry) (r : HoldRefusal) : Noted s (recordLeaving e r t) := by
  have hcount : Noted s (countRefusal e.req.lane t) := h.kept (by simp) (by simp)
  cases r with
  | rate =>
    simp only [Machine.recordLeaving]
    split
    · exact .record _ hcount
    · exact hcount
  | expired => exact .record _ h
  | withdrawn => exact h

theorem judgeDrained (h : Noted s t) : Noted s (judgeDrained t) := by
  rcases judgeDrained_cases t with ⟨-, heq⟩ | ⟨-, heq⟩ | ⟨-, -, heq⟩ <;> rw [heq]
  · exact .raises .quiesceDone rfl (h.kept (by simp) (by simp))
  · exact (Noted.raises .restartDone rfl (h.kept (u := restartPeriods t) rfl rfl)).kept (by simp) (by simp)
  · exact h

theorem scanned (h : Noted s t) : Noted s (scanned t) := by
  have hnoted : Noted s (Machine.noteShorts (scan t [] t.hold).shorts
      { t with hold := (scan t [] t.hold).entries, scanDue := false }) :=
    Noted.noteShorts (t := { t with hold := (scan t [] t.hold).entries, scanDue := false }) (h.kept rfl rfl) _
  unfold Machine.scanned
  dsimp only
  split
  · exact hnoted
  · exact hnoted.kept (by simp) (by simp)

theorem replenish (h : Noted s t) (g : Gen) (commit : Bool) (l : LaneId) : Noted s (replenish g commit l t) := by
  unfold Machine.replenish
  dsimp only
  split
  · exact (Noted.record (summaryRecord l g t.lanes[l]) h).kept (by simp) (by simp)
  · exact h.kept (by simp) (by simp)

theorem replenishLanes (h : Noted s t) (g : Gen) (commit : Bool) (ls : List LaneId) :
    Noted s (ls.foldl (fun s l => if s.lanes[l].live.gen = g then Machine.replenish g commit l s else s) t) := by
  induction ls generalizing t with
  | nil => exact h
  | cons l ls ih =>
    refine ih ?_
    dsimp only
    split
    · exact h.replenish g commit l
    · exact h

theorem expire (h : Noted s t) (g : Gen) : Noted s (expire g t) := by
  have hgen : Noted s (expireGen g t) := by
    unfold expireGen
    dsimp only
    split
    · exact .commitDone g (h.kept rfl rfl)
    · exact h.kept rfl rfl
  have hlanes : Noted s (replenishBound g t.gens[g].commitPending (expireGen g t)) := hgen.replenishLanes g _ _
  exact hlanes.kept (by simp only [Machine.expire, armTriggers_fields]) (by simp only [Machine.expire, armTriggers_fields])

theorem completed (h : Noted s t) : Noted s (completeQuiesce t) ∧ Noted s (completeRestart t) := by
  constructor
  · rcases completeQuiesce_cases t with ⟨-, heq⟩ | ⟨-, heq⟩ <;> rw [heq]
    · exact .raises .quiesceDone rfl (h.kept (by simp) (by simp))
    · exact h
  · rcases completeRestart_cases t with ⟨-, heq⟩ | ⟨-, heq⟩ <;> rw [heq]
    · exact (Noted.raises .restartDone rfl (h.kept (u := restartPeriods t) rfl rfl)).kept (by simp) (by simp)
    · exact h

end Noted

/-- What a frame does to the Event Unit and the log beside what it notes (R131, R136, R139). -/
theorem Written.noted {c : Instr} {s u : State} (hu : Written c s u) :
    Noted s u ∨ (∃ n, u.log = { s.log with records := s.log.records.drop n } ∧ u.events = s.events) ∨
      (∃ ps, u.log = s.log ∧ u.events = s.events.cleared ps) ∨
      ∃ f ms, c = .masksWrite f ∧ u.log = s.log ∧ u.events = s.events.masked ms := by
  cases hu with
  | badCheck => exact .inl ((Noted.refl s).fault _ _)
  | logRead n => exact .inr (.inl ⟨n, rfl, rfl⟩)
  | quiesce now hm => exact .inl (Noted.completed (.same (by simp) (by simp))).1
  | restart back hm => exact .inl (Noted.completed (.same (by simp) (by simp))).2
  | clear ps => exact .inr (.inr (.inl ⟨ps, rfl, rfl⟩))
  | masks f ms hc => exact .inr (.inr (.inr ⟨f, ms, hc, rfl, rfl⟩))
  | _ => exact .inl (.same (by simp [resumed]) (by simp [resumed]))

/-- What an event does to the Event Unit and the log: it notes, or it is a frame that removes, clears or masks. -/
theorem Event.noted {c : Instr} {s t : State} (h : Event c s t) :
    Noted s t ∨ (∃ n, t.log = { s.log with records := s.log.records.drop n } ∧ t.events = s.events) ∨
      (∃ ps, t.log = s.log ∧ t.events = s.events.cleared ps) ∨
      ∃ f ms, c = .masksWrite f ∧ t.log = s.log ∧ t.events = s.events.masked ms := by
  have hstart : Noted s (emptied s) := .same rfl rfl
  cases h with
  | malformed r hslot => exact .inl (((hstart.fault _ _).logRefusal _ _ _ _ _).kept rfl rfl)
  | clash r p hslot => exact .inl ((((hstart.fault _ _).triggers _ _).logRefusal _ _ _ _ _).kept rfl rfl)
  | forward r j d hj htag hchannel horder =>
    exact .inl ((((hstart.triggers _ _).logScreenMark _ _).noteShort _ _).grant _ _)
  | hold r j k hj hroom =>
    have hnoted : Noted s (noteShort j.req.lane j.short (logScreenMark j (.held k)
        (evaluateTriggers j.req (.held k) (emptied s)))) := ((hstart.triggers _ _).logScreenMark _ _).noteShort _ _
    exact .inl (hnoted.kept (by simp [takeHold]) (by simp [takeHold]))
  | refuse r j st hj hslot =>
    have hnoted : Noted s (noteShort j.req.lane j.short (logRefusal (refusalLogged j st (emptied s)) j.req.record
        j.req.lane j.req.rule st (logScreenMark { j with screenMark := screenRefused j st } (.refused st)
          (evaluateTriggers j.req (.refused st) (noteOverflow j st (emptied s)))))) :=
      ((((hstart.noteOverflow j st).triggers _ _).logScreenMark _ _).logRefusal _ _ _ _ _).noteShort _ _
    exact .inl (hnoted.kept (by simp [takeRefuse]) (by simp [takeRefuse]))
  | scans =>
    rcases releaseScan_cases s with h | ⟨g, n, e, -, -, -, -, h⟩ <;> rw [h]
    · exact .inl (Noted.refl s).scanned
    · exact .inl (((Noted.refl s).scanned.grant e.req g).kept (by simp [released]) (by simp [released]))
  | leave n e r hn he hr hslot =>
    have hqueued : Noted s { queueLocal e.req.tag r.status s with hold := s.hold.eraseIdx n } := .same rfl rfl
    have hleft : Noted s (leaveRefused n e r s) := (hqueued.recordLeaving e r).kept
      (by simp only [leaveRefused, bringOn_fields]) (by simp only [leaveRefused, bringOn_fields])
    exact .inl hleft.judgeDrained
  | aged n => exact .inl (.raises .holdAged rfl (.same rfl rfl))
  | forced n e he =>
    have hforced : Noted s { s with hold := forceCascade n e s.hold } := .same rfl rfl
    exact .inl ((Noted.record (e.expiryRecord .forced e.holdLimit) (hforced.noteExpiry e)).kept (by simp [expireForce])
      (by simp [expireForce]))
  | expired n e he =>
    have hrefused : Noted s (updateHeld n (HoldEntry.refuse .expired) s) := .same rfl rfl
    exact .inl ((hrefused.noteExpiry e).kept (by simp [expireRefuse]) (by simp [expireRefuse]))
  | timeout d f ht hslot =>
    have hleft : Noted s (leaveLive d f f.orphan (queueLocal f.tag .timedOut s)) :=
      .same (by simp [leaveLive]) (by simp [leaveLive])
    exact .inl (Noted.record _ (.raises .responseTimeout rfl (hleft.fault _ _))).noteOrphans.judgeDrained
  | relays h f ht => exact .inl (Noted.judgeDrained (.same (by simp [leaveLive, atHead]) (by simp [leaveLive, atHead])))
  | late h f ht =>
    have hnoted : Noted s (raise .orphanReturn (setTag h.tag .free { s with downResponse := none })) :=
      .raises .orphanReturn rfl (.same rfl rfl)
    exact .inl ((Noted.record (.orphan f.record f.lane f.rule h.tag) hnoted).kept (by simp [returnOrphan, atHead])
      (by simp [returnOrphan, atHead]))
  | unknown h ht =>
    have htaken : Noted s { s with downResponse := none } := .same rfl rfl
    exact .inl (htaken.fault .unknownResponse (unknownDetails h.tag))
  | expiry g hc hdue => exact .inl ((Noted.refl s).expire g)
  | quiesceForced hdue =>
    have hwithdrawn : Noted s (withdrawAll { s with quiesceTimer := none }) := .same (by simp) (by simp)
    exact .inl (hwithdrawn.fault _ _)
  | frame p u hp hu =>
    rcases hu.noted with h | h | h | h
    · exact .inl (h.kept rfl rfl)
    · exact .inr (.inl h)
    · exact .inr (.inr (.inl h))
    · exact .inr (.inr (.inr h))
  | _ => exact .inl (.same (by simp [atHead]) (by simp [atHead]))

end Sys2Proof.Machine
end

section
/-! Every step keeps the event sets in agreement with their flags (R133), every collection within its capacity and every
16-bit counter in range (R15, R76, R122, R130, R141), and a filled Fault Record (R143). -/

namespace Sys2Proof.Machine

/-! ## Sets and flags (R133) -/

/-- A raise leaves the flags of other codes. -/
theorem raise_flag_of_ne {f g : Flag} (h : g.code ≠ f.code) (e : Events) :
    (e.raise f).flags[g.code] = e.flags[g.code] := by
  rw [raise_flags, if_neg h]

/-- A raise sets its own flag. -/
theorem raise_flag_same (f : Flag) (e : Events) : ((e.raise f).flags[f.code]).set = true := by
  rw [raise_flags, if_pos rfl]
  rfl

/-- A set agrees with its flag. -/
def Agrees {n : Nat} (x : EventFlag) (v : BitVec n) : Prop := x.set = false ↔ v = 0

/-- A raise of another flag leaves a set in agreement. -/
theorem agrees_of_ne {f g : Flag} (hne : g.code ≠ f.code) {n : Nat} {v : BitVec n} {e : Events}
    (h : Agrees e.flags[g.code] v) : Agrees (e.raise f).flags[g.code] v := by
  rwa [raise_flag_of_ne hne]

/-- A raise without a member keeps sets and flags in agreement. -/
theorem setsAgree_raise {f : Flag} (hf : f.plain = true) {e : Events} (h : e.SetsAgree) : (e.raise f).SetsAgree := by
  have hcode : Flag.watermark.code ≠ f.code ∧ Flag.exhausted.code ≠ f.code ∧ Flag.commitDone.code ≠ f.code := by
    cases f <;> simp [Flag.plain] at hf <;> decide
  obtain ⟨hw, hx, hc⟩ := h
  obtain ⟨hnw, hnx, hnc⟩ := hcode
  exact ⟨agrees_of_ne hnw hw, agrees_of_ne hnx hx, agrees_of_ne hnc hc⟩

/-- A set that a member has just joined is not empty. -/
theorem or_twoPow_ne_zero {n : Nat} (b : BitVec n) (i : Fin n) : b ||| BitVec.twoPow n i ≠ 0 := by
  intro h
  have hbit : (b ||| BitVec.twoPow n i).getLsbD i = true := by simp
  rw [h] at hbit
  simp at hbit

/-- A raise with a member sets the flag of a set that is not empty. -/
theorem agrees_member {f : Flag} {e : Events} {n : Nat} (b : BitVec n) (i : Fin n) :
    Agrees (e.raise f).flags[f.code] (b ||| BitVec.twoPow n i) := by
  rw [Agrees, raise_flag_same]
  exact ⟨fun h => (Bool.false_ne_true h.symm).elim, fun h => absurd h (or_twoPow_ne_zero b i)⟩

/-- A raise with its member keeps sets and flags in agreement. -/
theorem setsAgree_member {e : Events} (h : e.SetsAgree) (l : LaneId) (g : Gen) :
    (e.withWatermark l).SetsAgree ∧ (e.withExhausted l).SetsAgree ∧ (e.withCommitDone g).SetsAgree := by
  obtain ⟨hw, hx, hc⟩ := h
  exact ⟨⟨agrees_member _ l, agrees_of_ne (g := .exhausted) (by decide) hx,
      agrees_of_ne (g := .commitDone) (by decide) hc⟩,
    ⟨agrees_of_ne (g := .watermark) (by decide) hw, agrees_member _ l, agrees_of_ne (g := .commitDone) (by decide) hc⟩,
    ⟨agrees_of_ne (g := .watermark) (by decide) hw, agrees_of_ne (g := .exhausted) (by decide) hx, agrees_member _ g⟩⟩

/-- A record keeps sets and flags in agreement: LOG_LEVEL and LOG_LOST carry no member. -/
theorem setsAgree_logRecord {b : RecordBody} {s : State} (h : s.events.SetsAgree) : (logRecord b s).events.SetsAgree := by
  by_cases hroom : s.log.records.length < Config.logCapacity
  · rw [(logRecord_stored hroom).2]
    split
    · exact setsAgree_raise rfl h
    · exact h
  · rw [(logRecord_lost hroom).2]
    exact setsAgree_raise rfl h

/-- A CLEAR empties the set of a flag it clears, and leaves the others (R135). -/
theorem agrees_cleared {ps : List (Byte × Byte)} {i : Fin 13} {x : EventFlag} {n : Nat} {v : BitVec n} (h : Agrees x v) :
    Agrees (if clears ps i x then { x with set := false } else x) (if clears ps i x then 0 else v) := by
  split
  · exact ⟨fun _ => rfl, fun _ => rfl⟩
  · exact h

/-- A CLEAR keeps sets and flags in agreement. -/
theorem setsAgree_cleared {e : Events} (ps : List (Byte × Byte)) (h : e.SetsAgree) : (e.cleared ps).SetsAgree := by
  obtain ⟨hw, hx, hc⟩ := h
  simp only [Events.SetsAgree, Events.cleared, mapVec_get_fin]
  exact ⟨agrees_cleared hw, agrees_cleared hx, agrees_cleared hc⟩

/-- A MASKS write touches neither flags nor sets. -/
theorem setsAgree_masked {e : Events} (ms : List Bool) (h : e.SetsAgree) : (e.masked ms).SetsAgree := by
  simp only [Events.SetsAgree, Events.masked, mapVec_get_fin]
  exact h

/-- What is only noted keeps sets and flags in agreement. -/
theorem Noted.setsAgree {s t : State} (h : Noted s t) (hs : s.events.SetsAgree) : t.events.SetsAgree := by
  induction h with
  | same hlog hevents => rw [hevents]; exact hs
  | raises f hf h ih => exact setsAgree_raise hf ih
  | watermark l h ih => exact (setsAgree_member ih l 0).1
  | exhausted l h ih => exact (setsAgree_member ih l 0).2.1
  | commitDone g h ih => exact (setsAgree_member ih 0 g).2.2
  | record b h ih => exact setsAgree_logRecord ih
  | kept h hlog hevents ih => rw [hevents]; exact ih

/-- After a reset every flag is clear and every set empty (R133). -/
theorem setsAgree_reset : Events.reset.SetsAgree := by decide

/-- Settles O11: raises keep the agreement, a CLEAR empties the sets it clears the flags of, and a MASKS write touches
neither. -/
theorem eventSetsAgreeWithFlags : Obligations.EventSetsAgreeWithFlags := by
  unfold Obligations.EventSetsAgreeWithFlags
  refine step_keeps (fun s q h => h) (fun c s t _ hs h => ?_) fun c s t hs h => ?_
  · rcases h.noted with h | ⟨n, -, h⟩ | ⟨ps, -, h⟩ | ⟨f, ms, -, -, h⟩
    · exact h.setsAgree hs
    · rw [h]; exact hs
    · rw [h]; exact setsAgree_cleared ps hs
    · rw [h]; exact setsAgree_masked ms hs
  · cases h with
    | powerOn | pin => exact setsAgree_reset
    | ends p cause hc hphase => exact hs

/-! ## The Fault Unit (R141, R143) -/

/-- What a frame does to the Fault Unit: nothing, one count, or one of the two clears. -/
theorem Written.faults {c : Instr} {s u : State} (hu : Written c s u) :
    u.faults = s.faults ∨ (∃ k d, u.faults = s.faults.counted k d s.timebase) ∨
      ((∃ f, c = .clearFault f) ∧ u.faults = { s.faults with record := none }) ∨
      u.faults = { s.faults with counts := Vector.replicate 8 0 } := by
  cases hu with
  | badCheck => exact .inr (.inl ⟨.frameCheck, FaultDetails.none, rfl⟩)
  | clearFault f hc => exact .inr (.inr (.inl ⟨⟨f, hc⟩, rfl⟩))
  | clearCounters => exact .inr (.inr (.inr rfl))
  | _ => exact .inl (by simp [resumed, restartFrom])

/-- What an event does to the Fault Unit: nothing, one count, or one of the two clears. -/
theorem Event.faults {c : Instr} {s t : State} (h : Event c s t) :
    t.faults = s.faults ∨ (∃ k d, t.faults = s.faults.counted k d s.timebase) ∨
      ((∃ f, c = .clearFault f) ∧ t.faults = { s.faults with record := none }) ∨
      t.faults = { s.faults with counts := Vector.replicate 8 0 } := by
  cases h with
  | malformed r hslot => exact .inr (.inl ⟨.malformed, requestDetails r, by simp [takeMalformed, emptied, countFault]⟩)
  | clash r p hslot => exact .inr (.inl ⟨.tagClash, requestDetails r, by simp [takeClash, emptied, countFault]⟩)
  | refuse r j st hj hslot =>
    by_cases hfull : st = .refusedFull
    · exact .inr (.inl ⟨.holdOverflow, j.req.overflowDetails, by
        simp [takeRefuse, emptied, noteOverflow, hfull, countFault]⟩)
    · exact .inl (by simp [takeRefuse, emptied, noteOverflow, hfull])
  | scans => rcases releaseScan_cases s with h | ⟨g, n, e, -, -, -, -, h⟩ <;> exact .inl (by simp [h, released])
  | forced n e he => exact .inr (.inl ⟨.holdExpired, e.faultDetails, by simp [expireForce, noteExpiry, countFault]⟩)
  | expired n e he =>
    exact .inr (.inl ⟨.holdExpired, e.faultDetails, by simp [expireRefuse, noteExpiry, updateHeld, countFault]⟩)
  | timeout d f ht hslot =>
    exact .inr (.inl ⟨.responseTimeout, f.faultDetails d, by simp [timeOut, countFault, leaveLive]⟩)
  | unknown h ht => exact .inr (.inl ⟨.unknownResponse, unknownDetails h.tag, rfl⟩)
  | quiesceForced hdue => exact .inr (.inl ⟨.quiesceForced, FaultDetails.none, by simp [countFault]⟩)
  | frame p u hp hu => exact hu.faults
  | _ => exact .inl (by simp [takeForward, takeHold, emptied, leaveRefused, relay, leaveLive, atHead, returnOrphan])

/-- Settles O13: a count leaves a filled record as it is, and of the clears only CLEAR_FAULT empties it. -/
theorem faultRecordPersists : Obligations.FaultRecordPersists := by
  unfold Obligations.FaultRecordPersists
  intro c s t r hr hexec hclear hpower
  rcases exec_next_cases hexec with rfl | ⟨-, h⟩ | h
  · exact hr
  · rcases h.faults with h | ⟨k, d, h⟩ | ⟨⟨f, hc⟩, -⟩ | h
    · rw [h, hr]
    · rw [h, Faults.counted, hr]; rfl
    · exact absurd hc (hclear f)
    · rw [h]; exact hr
  · cases h with
    | powerOn hc => exact absurd hc hpower
    | pin | ends p cause hc hphase => exact hr

/-! ## Capacities -/

/-- The Capture Log is within its capacity and its lost count in range (R122, R130). -/
def LogWithin (l : CaptureLog) : Prop := l.records.length ≤ Config.logCapacity ∧ l.lost ≤ Config.top16

/-- A record's arrival keeps the log within its capacity (R128). -/
theorem logWithin_logRecord {b : RecordBody} {s : State} (h : LogWithin s.log) : LogWithin (logRecord b s).log := by
  obtain ⟨hlen, hlost⟩ := h
  by_cases hroom : s.log.records.length < Config.logCapacity
  · rw [(logRecord_stored hroom).1]
    exact ⟨by simpa using hroom, hlost⟩
  · rw [(logRecord_lost hroom).1]
    refine ⟨?_, satAdd_le _ _ _⟩
    cases s.limits.logPolicy with
    | stop => exact hlen
    | wrap =>
      have hpos : 1 ≤ s.log.records.length := (by decide : 1 ≤ Config.logCapacity).trans (Nat.le_of_not_lt hroom)
      simpa [overflowed, Nat.sub_add_cancel hpos] using hlen

/-- What is only noted keeps the log within its capacity. -/
theorem Noted.logWithin {s t : State} (h : Noted s t) (hs : LogWithin s.log) : LogWithin t.log := by
  induction h with
  | same hlog hevents => rw [hlog]; exact hs
  | record b h ih => exact logWithin_logRecord ih
  | kept h hlog hevents ih => rw [hlog]; exact ih
  | raises f hf h ih | watermark l h ih | exhausted l h ih | commitDone g h ih => exact ih

/-- Every event keeps the log within its capacity. -/
theorem Event.logWithin {c : Instr} {s t : State} (h : Event c s t) (hs : LogWithin s.log) : LogWithin t.log := by
  rcases h.noted with h | ⟨n, h, -⟩ | ⟨ps, h, -⟩ | ⟨f, ms, -, h, -⟩
  · exact h.logWithin hs
  · rw [h]
    exact ⟨by simpa using (Nat.sub_le _ _).trans hs.1, hs.2⟩
  · rw [h]; exact hs
  · rw [h]; exact hs

/-- The fault counters are in range (R141). -/
def FaultsWithin (f : Faults) : Prop := ∀ k : Fin 8, f.counts[k] ≤ Config.top16

/-- A count keeps the counters in range. -/
theorem faultsWithin_counted {f : Faults} (h : FaultsWithin f) (k : FaultKind) (d : FaultDetails) (now : Time) :
    FaultsWithin (f.counted k d now) := by
  intro i
  simp only [Faults.counted, Fin.getElem_fin, Vector.getElem_set]
  split
  · exact satAdd_le _ _ _
  · exact h i

/-- Every event keeps the fault counters in range. -/
theorem Event.faultsWithin {c : Instr} {s t : State} (h : Event c s t) (hs : FaultsWithin s.faults) :
    FaultsWithin t.faults := by
  rcases h.faults with h | ⟨k, d, h⟩ | ⟨-, h⟩ | h <;> rw [h]
  · exact hs
  · exact faultsWithin_counted hs k d _
  · exact hs
  · intro k
    simp

/-- Every event keeps the Local Response Queue within its capacity: a response joins where a slot is free (R15). -/
theorem Event.localQueue {c : Instr} {s t : State} (h : Event c s t) (hs : s.localQueue.length ≤ Config.localCapacity) :
    t.localQueue.length ≤ Config.localCapacity := by
  have hjoin : slotFree s = true → ∀ x : LocalResponse, (s.localQueue ++ [x]).length ≤ Config.localCapacity := by
    intro hslot x
    simpa [slotFree] using hslot
  cases h with
  | malformed r hslot => simpa [takeMalformed, emptied, queueLocal] using hjoin hslot ⟨r.tag, .refusedProtocol⟩
  | clash r p hslot => simpa [takeClash, emptied, queueLocal] using hjoin hslot ⟨r.tag, .refusedProtocol⟩
  | refuse r j st hj hslot => simpa [takeRefuse, emptied, queueLocal] using hjoin hslot ⟨j.req.tag, st⟩
  | leave n e r hn he hr hslot => simpa [leaveRefused, queueLocal] using hjoin hslot ⟨e.req.tag, r.status⟩
  | timeout d f ht hslot => simpa [timeOut, leaveLive, queueLocal] using hjoin hslot ⟨f.tag, .timedOut⟩
  | localSent x rest hq =>
    rw [hq] at hs
    simpa using (Nat.le_succ _).trans hs
  | scans => rcases releaseScan_cases s with h | ⟨g, n, e, -, -, -, -, h⟩ <;> simpa [h, released] using hs
  | frame p u hp hu => cases hu <;> simpa [resumed, restartFrom] using hs
  | _ => simpa [takeForward, takeHold, emptied, relay, leaveLive, atHead, returnOrphan, discardUnknown, expireForce,
      expireRefuse, noteExpiry] using hs

/-- The beats of the store a list of requests uses (R78). -/
def storedBeats (q : List Passage) : Nat := (q.map Passage.storeBeats).sum

/-- The used beats are those of the requests held. -/
theorem usedBeats_eq (s : State) : usedBeats s = storedBeats s.requests := by
  simp only [usedBeats, storedBeats, State.requests, List.map_map]
  exact congrArg List.sum (List.map_congr_left fun e _ => e.storeBeats_eq)

/-- Fewer requests use fewer beats. -/
theorem storedBeats_le {q r : List Passage} (h : q.Sublist r) : storedBeats q ≤ storedBeats r :=
  (h.map _).sum_le_sum fun _ _ => Nat.zero_le _

/-- Room for a hold is a slot, and the beats it uses (R95). -/
theorem room_of_hasRoom {p : Passage} {s : State} (h : hasRoom p s = true) :
    s.hold.length + 1 ≤ Config.holdCapacity ∧ (usedBeats s ≤ Config.storeCapacity →
      usedBeats s + p.storeBeats ≤ Config.storeCapacity) := by
  obtain ⟨hslot, hbeats⟩ := (hasRoom_iff p s).mp h
  refine ⟨hslot, fun hused => ?_⟩
  unfold Passage.storeBeats
  split
  · exact hbeats ‹_›
  · exact hused

/-- Every event keeps the Hold Queue and its store within their capacities (R76, R95). -/
theorem Event.heldWithin {c : Instr} {s t : State} (h : Event c s t) (hlen : s.hold.length ≤ Config.holdCapacity)
    (hbeats : usedBeats s ≤ Config.storeCapacity) :
    t.hold.length ≤ Config.holdCapacity ∧ usedBeats t ≤ Config.storeCapacity := by
  have hlength : ∀ u : State, u.hold.length = u.requests.length := fun u => (List.length_map _).symm
  rw [hlength, usedBeats_eq] at *
  rcases h.requests with hsub | ⟨r, j, k, hj, hroom, -, happend⟩
  · exact ⟨hsub.length_le.trans hlen, (storedBeats_le hsub).trans hbeats⟩
  · obtain ⟨hslot, hstore⟩ := room_of_hasRoom hroom
    rw [hlength, usedBeats_eq] at *
    rw [happend]
    exact ⟨by simpa using hslot, by simpa [storedBeats] using hstore hbeats⟩

/-- An event leaves the port, or leaves it with an empty buffer. -/
theorem Event.port {c : Instr} {s t : State} (h : Event c s t) : t.port = s.port ∨ t.port.buffer = [] := by
  cases h with
  | frame p u hp hu => exact .inr hp
  | scans => rcases releaseScan_cases s with h | ⟨g, n, e, -, -, -, -, h⟩ <;> exact .inl (by simp [h, released])
  | _ => exact .inl (by simp [takeMalformed, takeClash, takeForward, takeHold, takeRefuse, emptied, leaveRefused,
      expireForce, expireRefuse, noteExpiry, timeOut, relay, leaveLive, atHead, returnOrphan, discardUnknown])

/-- After a reset nothing is held, queued, logged or buffered (R15, R76, R122, R165). -/
theorem boundedReset : State.reset.Bounded :=
  ⟨Nat.zero_le _, Nat.zero_le _, Nat.zero_le _, Nat.zero_le _, Nat.zero_le _⟩

/-- After a power-on reset every fault counter is 0 (R142). -/
theorem faultsWithin_reset : FaultsWithin Faults.reset := fun k => by simp [Faults.reset]

/-- Settles O5, collection by collection and counter by counter. -/
theorem capacitiesKept : Obligations.CapacitiesKept := by
  unfold Obligations.CapacitiesKept
  refine step_keeps (P := fun s => s.Bounded ∧ s.Counted) (fun s q h => h) (fun c s t _ hs h => ?_) fun c s t hs h => ?_
  · obtain ⟨⟨hhold, hstore, hlocal, hlog, hbuffer⟩, hlost, hfaults⟩ := hs
    obtain ⟨hhold', hstore'⟩ := h.heldWithin hhold hstore
    obtain ⟨hlog', hlost'⟩ := h.logWithin ⟨hlog, hlost⟩
    refine ⟨⟨hhold', hstore', h.localQueue hlocal, hlog', ?_⟩, hlost', h.faultsWithin hfaults⟩
    rcases h.port with hp | hp <;> rw [hp]
    · exact hbuffer
    · exact Nat.zero_le _
  · cases h with
    | powerOn => exact ⟨boundedReset, Nat.zero_le _, faultsWithin_reset⟩
    | pin => exact ⟨boundedReset, Nat.zero_le _, hs.2.2⟩
    | ends p cause hc hphase => exact hs

end Sys2Proof.Machine
end

section
/-! Tables, settings and countdowns under every event: what each may become, and so what every step keeps of them
(R20, R21, R61, R62, R77, R78, R90, R98, R107, R116, R117, R120), and which command alone writes each (R21, R34, R59, R61,
R65, R133, R148, R149, R174). -/

namespace Sys2Proof.Machine

/-! ## What a decoder accepts is legal -/

/-- Settings that decode are legal (R174). -/
theorem decodeLimits_legal {bs : List Byte} {x : Limits} (h : decodeLimits bs = some x) : x.legal = true := by
  unfold decodeLimits at h
  split at h
  · split at h
    · dsimp only at h
      split at h
      · cases h; assumption
      · cases h
    · cases h
  · cases h

/-- A rule that decodes has a legal pattern (R21). -/
theorem decodeRule_legal {bs : List Byte} {x : RuleEntry} (h : decodeRule bs = some x) : x.pattern.legal = true := by
  unfold decodeRule at h
  split at h
  · split at h
    · dsimp only at h
      split at h
      · cases h; assumption
      · cases h
    · cases h
  · cases h

/-- A trigger that decodes has a legal pattern, and is armed when it is enabled (R117, R120). -/
theorem decodeTrigger_legal {bs : List Byte} {x : Trigger} (h : decodeTrigger bs = some x) :
    x.pattern.legal = true ∧ x.armed = x.enabled := by
  unfold decodeTrigger at h
  split at h
  · split at h
    · dsimp only at h
      split at h
      · cases h; exact ⟨by assumption, rfl⟩
      · cases h
    · cases h
  · cases h

/-- A period that decodes is in range (R67). -/
theorem decodePeriod_range {bs : List Byte} {p : Nat} (h : decodePeriod bs = some p) : 1 ≤ p ∧ p ≤ Config.maxPeriod := by
  unfold decodePeriod at h
  split at h
  · cases h; assumption
  · cases h

/-! ## Settings, rules, Timebase, straps -/

/-- An event leaves the settings, or is a LIMITS write. -/
theorem Event.limits {c : Instr} {s t : State} (h : Event c s t) :
    t.limits = s.limits ∨ ∃ f, c = .limitsWrite f ∧ decodeLimits f.payload = some t.limits := by
  cases h with
  | scans => rcases releaseScan_cases s with h | ⟨g, n, e, -, -, -, -, h⟩ <;> exact .inl (by simp [h, released])
  | frame p u hp hu =>
    cases hu with
    | limits f x hc hx => exact .inr ⟨f, hc, by simpa using hx⟩
    | _ => exact .inl (by simp [resumed, restartFrom])
  | _ => exact .inl (by simp [takeMalformed, takeClash, takeForward, takeHold, takeRefuse, emptied, leaveRefused,
      expireForce, expireRefuse, noteExpiry, timeOut, relay, leaveLive, atHead, returnOrphan, discardUnknown])

/-- An event leaves the Rule Table, or is a RULE write. -/
theorem Event.rules {c : Instr} {s t : State} (h : Event c s t) :
    t.rules = s.rules ∨ ∃ (f : Frame) (n : RuleId) (x : RuleEntry),
      c = .ruleWrite f ∧ decodeRule f.payload = some x ∧ t.rules = s.rules.set n x := by
  cases h with
  | scans => rcases releaseScan_cases s with h | ⟨g, n, e, -, -, -, -, h⟩ <;> exact .inl (by simp [h, released])
  | frame p u hp hu =>
    cases hu with
    | rule f n x hc hx => exact .inr ⟨f, n, x, hc, hx, by simp⟩
    | _ => exact .inl (by simp [resumed, restartFrom])
  | _ => exact .inl (by simp [takeMalformed, takeClash, takeForward, takeHold, takeRefuse, emptied, leaveRefused,
      expireForce, expireRefuse, noteExpiry, timeOut, relay, leaveLive, atHead, returnOrphan, discardUnknown])

/-- An event leaves the Timebase, or is a tick. -/
theorem Event.timebase {c : Instr} {s t : State} (h : Event c s t) : t.timebase = s.timebase ∨ c = .timebaseTick := by
  cases h with
  | scans => rcases releaseScan_cases s with h | ⟨g, n, e, -, -, -, -, h⟩ <;> exact .inl (by simp [h, released])
  | ticks hc hdue => exact .inr hc
  | frame p u hp hu => cases hu <;> exact .inl (by simp [resumed, restartFrom])
  | _ => exact .inl (by simp [takeMalformed, takeClash, takeForward, takeHold, takeRefuse, emptied, leaveRefused,
      expireForce, expireRefuse, noteExpiry, timeOut, relay, leaveLive, atHead, returnOrphan, discardUnknown])

/-- An event leaves the straps and the reset cause (R148, R149). -/
theorem Event.straps {c : Instr} {s t : State} (h : Event c s t) :
    t.straps = s.straps ∧ t.resetCause = s.resetCause := by
  cases h with
  | scans => rcases releaseScan_cases s with h | ⟨g, n, e, -, -, -, -, h⟩ <;> simp [h, released]
  | frame p u hp hu => cases hu <;> simp [resumed, restartFrom]
  | _ => simp [takeMalformed, takeClash, takeForward, takeHold, takeRefuse, emptied, leaveRefused,
      expireForce, expireRefuse, noteExpiry, timeOut, relay, leaveLive, atHead, returnOrphan, discardUnknown]

/-! ## Lane records (R34, R65) -/

/-- Both configured records stay. -/
def SameRecords (x y : Lane) : Prop := y.staged = x.staged ∧ y.live = x.live

/-- A charge and a rise of the live count leave both records. -/
theorem granted_records (paid : Bool) (cost : Nat) (x : Lane) : SameRecords x (x.granted paid cost) := by
  cases paid <;> exact ⟨rfl, rfl⟩

/-- The completions leave both records of every lane (R58). -/
theorem judgeDrained_records (s : State) (k : LaneId) : SameRecords s.lanes[k] (judgeDrained s).lanes[k] := by
  rw [judgeDrained_lane]
  split <;> exact ⟨rfl, rfl⟩

/-- The leaving of a refused entry leaves both records of every lane (R52). -/
theorem leaveRefused_records (n : Nat) (e : HoldEntry) (r : HoldRefusal) (s : State) (k : LaneId) :
    SameRecords s.lanes[k] (leaveRefused n e r s).lanes[k] := by
  simp only [leaveRefused, bringOn_fields]
  cases r with
  | rate =>
    have hcount : SameRecords s.lanes[k] (countRefusal e.req.lane
        { queueLocal e.req.tag HoldRefusal.rate.status s with hold := s.hold.eraseIdx n }).lanes[k] := by
      rw [countRefusal_lane]
      split <;> exact ⟨rfl, rfl⟩
    simp only [recordLeaving]
    split
    · simpa only [logRecord_fields] using hcount
    · exact hcount
  | expired => simp only [recordLeaving, logRecord_fields]; exact ⟨rfl, rfl⟩
  | withdrawn => exact ⟨rfl, rfl⟩

/-- A staged record changes at its write alone. -/
theorem Written.laneRecords {c : Instr} {s u : State} (hu : Written c s u) (k : LaneId) :
    SameRecords s.lanes[k] u.lanes[k] ∨ ∃ f, c = .laneStagedWrite f ∧ u.lanes[k].live = s.lanes[k].live := by
  have hsame : u.lanes = s.lanes → SameRecords s.lanes[k] u.lanes[k] := by
    intro ht
    rw [ht]
    exact ⟨rfl, rfl⟩
  cases hu with
  | staged f l x hc hx =>
    refine .inr ⟨f, hc, ?_⟩
    rw [updateLane_lane]
    split
    · next h => rw [h]
    · rfl
  | cleared l =>
    left
    rw [updateLane_lane]
    split
    · next h => rw [h]; exact ⟨rfl, rfl⟩
    · exact ⟨rfl, rfl⟩
  | restart back hm =>
    left
    have hm' : (withdrawAll (enter .restarting { s with resume := back })).mode = .restarting := by simp [enter]
    rw [restartFrom, ← judgeDrained_of_restarting hm']
    simpa only [withdrawAll_fields, enter_fields] using
      judgeDrained_records (withdrawAll (enter .restarting { s with resume := back })) k
  | _ => exact .inl (hsame (by simp [resumed]))

/-- A staged record changes at its write alone, a live record at an expiry alone. -/
theorem Event.laneRecords {c : Instr} {s t : State} (h : Event c s t) (k : LaneId) :
    SameRecords s.lanes[k] t.lanes[k] ∨ (∃ f, c = .laneStagedWrite f ∧ t.lanes[k].live = s.lanes[k].live) ∨
      ∃ g, c = .periodGeneratorExpiry g ∧ t.lanes[k].staged = s.lanes[k].staged := by
  have hsame : t.lanes = s.lanes → SameRecords s.lanes[k] t.lanes[k] := by
    intro ht
    rw [ht]
    exact ⟨rfl, rfl⟩
  cases h with
  | forward r j d hj htag hchannel horder =>
    left
    rw [takeForward, grant_lane, noteShort_lane]
    simp only [logScreenMark_fields, evaluateTriggers_fields]
    split
    · exact granted_records _ _ _
    · exact ⟨rfl, rfl⟩
  | hold r j q hj hroom =>
    left
    simp only [takeHold, bringScan_fields, countHold_lane, noteShort_lane, logScreenMark_fields,
      evaluateTriggers_fields]
    split <;> exact ⟨rfl, rfl⟩
  | refuse r j st hj hslot =>
    left
    simp only [takeRefuse, queueLocal_fields, countRefusal_lane, noteShort_lane, logRefusal_fields,
      logScreenMark_fields, evaluateTriggers_fields, noteOverflow_fields]
    split <;> exact ⟨rfl, rfl⟩
  | scans =>
    left
    rcases releaseScan_cases s with h | ⟨d, n, e, -, -, -, -, h⟩ <;> rw [h]
    · rw [scanned_lane]; exact ⟨rfl, rfl⟩
    · rw [released_lane, scanned_lane]
      split
      · exact granted_records _ _ _
      · exact ⟨rfl, rfl⟩
  | leave n e r hn he hr hslot =>
    obtain ⟨hst, hlv⟩ := leaveRefused_records n e r s k
    obtain ⟨hst', hlv'⟩ := judgeDrained_records (leaveRefused n e r s) k
    exact .inl ⟨hst'.trans hst, hlv'.trans hlv⟩
  | timeout d f ht hslot =>
    left
    rw [timeOut_eq_judgeDrained]
    obtain ⟨hst, hlv⟩ := judgeDrained_records (timedOut d f s) k
    rw [(timedOut_writes d f s).2.1] at hst hlv
    refine ⟨hst.trans ?_, hlv.trans ?_⟩ <;> split <;> rfl
  | relays h f ht =>
    left
    rw [relay]
    obtain ⟨hst, hlv⟩ := judgeDrained_records
      (leaveLive h.tag f .free { atHead h s with upResponse := some (relayed h f), turn := .localSide }) k
    rw [(leaveLive_writes h.tag f .free _).2.1] at hst hlv
    refine ⟨hst.trans ?_, hlv.trans ?_⟩ <;> split <;> rfl
  | expiry g hc hdue =>
    refine .inr (.inr ⟨g, hc, ?_⟩)
    rw [expire_lane]
    split <;> rfl
  | frame p u hp hu =>
    rcases hu.laneRecords k with h | h
    · exact .inl h
    · exact .inr (.inl h)
  | _ => exact .inl (hsame (by simp [takeMalformed, takeClash, emptied, expireForce, expireRefuse, noteExpiry, atHead,
      returnOrphan, discardUnknown]))

/-! ## Generators (R61, R62) -/

/-- What may become of a generator in one event. -/
inductive GenMove (c : Instr) (g : Gen) (x : Generator) : Generator → Prop
  | same : GenMove c g x x
  | ticks : GenMove c g x x.ticked
  | expires (hc : c = .periodGeneratorExpiry g) : GenMove c g x x.expired
  | restarts : GenMove c g x x.restarted
  | staged (f : Frame) (p : Nat) (hc : c = .periodWrite f) (hp : decodePeriod f.payload = some p) :
      GenMove c g x { x with stagedPeriod := p }
  | pending (b : Bool) : GenMove c g x { x with commitPending := b }

/-- The completions restart every generator, or leave them (R74). -/
theorem judgeDrained_gens (c : Instr) (s : State) (g : Gen) : GenMove c g s.gens[g] (judgeDrained s).gens[g] := by
  rcases judgeDrained_cases s with ⟨-, h⟩ | ⟨-, h⟩ | ⟨-, -, h⟩ <;> rw [h]
  · simpa using GenMove.same
  · simpa [restartPeriods] using GenMove.restarts
  · exact .same

/-- A generator of a table in which one has been replaced. -/
theorem updateGen_gen (e g : Gen) (f : Generator → Generator) (s : State) :
    (updateGen e f s).gens[g] = if g = e then f s.gens[e] else s.gens[g] := by
  by_cases h : g = e
  · subst h; simp [updateGen]
  · have hne : (e : Nat) ≠ g := fun hh => h (Fin.ext hh.symm)
    simp [updateGen, h, hne]

/-- The generators after an expiry (R62, R70). -/
theorem expire_gens (e : Gen) (s : State) : (expire e s).gens = (updateGen e Generator.expired s).gens := by
  simp only [expire, armTriggers_fields, replenishBound_fields]
  unfold expireGen
  dsimp only
  split <;> rfl

/-- A frame moves each generator by one of the moves. -/
theorem Written.gens {c : Instr} {s u : State} (hu : Written c s u) (g : Gen) : GenMove c g s.gens[g] u.gens[g] := by
  have hsame : u.gens = s.gens → GenMove c g s.gens[g] u.gens[g] := by
    intro ht
    rw [ht]
    exact .same
  cases hu with
  | restart back hm =>
    have hm' : (withdrawAll (enter .restarting { s with resume := back })).mode = .restarting := by simp [enter]
    rw [restartFrom, ← judgeDrained_of_restarting hm']
    simpa only [withdrawAll_fields, enter_fields] using
      judgeDrained_gens c (withdrawAll (enter .restarting { s with resume := back })) g
  | period f e x hc hx =>
    rw [updateGen_gen]
    split
    · next h => rw [h]; exact .staged f x hc hx
    · exact .same
  | commit set =>
    simp only [commitGens, mapVec_get_fin]
    split
    · exact .pending true
    · exact .same
  | cancel set =>
    simp only [cancelGens, mapVec_get_fin]
    split
    · exact .pending false
    · exact .same
  | _ => exact hsame (by simp [resumed])

/-- An event moves each generator by one of the moves. -/
theorem Event.gens {c : Instr} {s t : State} (h : Event c s t) (g : Gen) : GenMove c g s.gens[g] t.gens[g] := by
  have hdrained : ∀ u : State, u.gens = s.gens → GenMove c g s.gens[g] (judgeDrained u).gens[g] := by
    intro u hu
    rw [← hu]
    exact judgeDrained_gens c u g
  have hsame : t.gens = s.gens → GenMove c g s.gens[g] t.gens[g] := by
    intro ht
    rw [ht]
    exact .same
  cases h with
  | scans => rcases releaseScan_cases s with h | ⟨d, n, e, -, -, -, -, h⟩ <;> exact hsame (by simp [h, released])
  | leave n e r hn he hr hslot => exact hdrained _ (by simp [leaveRefused])
  | timeout d f ht hslot => exact hdrained _ (by simp [leaveLive])
  | relays h f ht => exact hdrained _ (by simp [leaveLive, atHead])
  | ticks hc hdue =>
    simp only [tick, mapVec_get_fin]
    exact .ticks
  | expiry e hc hdue =>
    rw [expire_gens, updateGen_gen]
    split
    · next h => rw [h]; exact .expires hc
    · exact .same
  | frame p u hp hu => exact hu.gens g
  | _ => exact hsame (by simp [takeMalformed, takeClash, takeForward, takeHold, takeRefuse, emptied,
      expireForce, expireRefuse, noteExpiry, atHead, returnOrphan, discardUnknown])

/-! ## Triggers (R116, R117, R120) -/

/-- What may become of a trigger in one event: only its armed field changes, or a TRIGGER write replaces it. -/
inductive TriggerMove (c : Instr) (x : Trigger) : Trigger → Prop
  | armed (b : Bool) (hb : b = true → x.armed = true ∨ x.enabled = true) : TriggerMove c x { x with armed := b }
  | written (f : Frame) (y : Trigger) (hc : c = .triggerWrite f) (hy : decodeTrigger f.payload = some y) :
      TriggerMove c x y

/-- A trigger that stays has made the least of moves. -/
theorem TriggerMove.same (c : Instr) (x : Trigger) : TriggerMove c x x := .armed x.armed .inl

/-- A match only disarms (R120). -/
theorem triggerMove_matched (c : Instr) (x : Trigger) : TriggerMove c x x.matched := by
  unfold Trigger.matched
  split
  · exact .armed false (fun h => absurd h Bool.false_ne_true)
  · exact .same c x
  · exact .armed false (fun h => absurd h Bool.false_ne_true)

/-- The triggers' evaluation moves each trigger. -/
theorem evaluateTriggers_moves (c : Instr) (p : Passage) (shown : Shown) (s : State) (n : TriggerId) :
    TriggerMove c s.triggers[n] (evaluateTriggers p shown s).triggers[n] := by
  unfold evaluateTriggers
  split
  · simp only [logRecord_fields, mapVec_get_fin]
    split
    · exact triggerMove_matched c _
    · exact .same c _
  · exact .same c _

/-- A restart arms enabled triggers alone (R120). -/
theorem triggerMove_restarted (c : Instr) (x : Trigger) : TriggerMove c x x.restarted := by
  have harm : TriggerMove c x { x with armed := x.armed || x.enabled } := .armed _ fun h => by simpa using h
  unfold Trigger.restarted
  split
  · exact harm
  · exact .same c x
  · exact harm

/-- The completions move each trigger. -/
theorem judgeDrained_triggers (c : Instr) (s : State) (n : TriggerId) :
    TriggerMove c s.triggers[n] (judgeDrained s).triggers[n] := by
  rcases judgeDrained_cases s with ⟨-, h⟩ | ⟨-, h⟩ | ⟨-, -, h⟩ <;> rw [h]
  · simpa using TriggerMove.same c _
  · simpa [restartPeriods] using triggerMove_restarted c s.triggers[n]
  · exact .same c _

/-- An expiry arms enabled triggers alone (R64). -/
theorem triggerMove_armedBy (c : Instr) (g : Gen) (x : Trigger) : TriggerMove c x (x.armedBy g) := by
  unfold Trigger.armedBy
  split
  · next h =>
    simp only [Bool.and_eq_true] at h
    exact .armed true fun _ => .inr h.1.1
  · exact .same c x

/-- A frame moves each trigger by one of the moves. -/
theorem Written.triggers {c : Instr} {s u : State} (hu : Written c s u) (n : TriggerId) :
    TriggerMove c s.triggers[n] u.triggers[n] := by
  have hsame : u.triggers = s.triggers → TriggerMove c s.triggers[n] u.triggers[n] := by
    intro ht
    rw [ht]
    exact .same c _
  cases hu with
  | restart back hm =>
    have hm' : (withdrawAll (enter .restarting { s with resume := back })).mode = .restarting := by simp [enter]
    rw [restartFrom, ← judgeDrained_of_restarting hm']
    simpa only [withdrawAll_fields, enter_fields] using
      judgeDrained_triggers c (withdrawAll (enter .restarting { s with resume := back })) n
  | trigger f e x hc hx =>
    by_cases h : (e : Nat) = n
    · simpa [h] using TriggerMove.written f x hc hx
    · simpa [h] using TriggerMove.same c _
  | _ => exact hsame (by simp [resumed])

/-- An event moves each trigger by one of the moves. -/
theorem Event.triggers {c : Instr} {s t : State} (h : Event c s t) (n : TriggerId) :
    TriggerMove c s.triggers[n] t.triggers[n] := by
  have hsame : t.triggers = s.triggers → TriggerMove c s.triggers[n] t.triggers[n] := by
    intro ht
    rw [ht]
    exact .same c _
  have hdrained : ∀ u : State, u.triggers = s.triggers → TriggerMove c s.triggers[n] (judgeDrained u).triggers[n] := by
    intro u hu
    rw [← hu]
    exact judgeDrained_triggers c u n
  have hevaluated : ∀ (p : Passage) (shown : Shown) (u : State), u.triggers = s.triggers →
      TriggerMove c s.triggers[n] (evaluateTriggers p shown u).triggers[n] := by
    intro p shown u hu
    rw [← hu]
    exact evaluateTriggers_moves c p shown u n
  cases h with
  | clash r p hslot =>
    simpa only [takeClash, queueLocal_fields, logRefusal_fields] using
      hevaluated p (.refused .refusedProtocol) (countFault .tagClash (requestDetails r) (emptied s)) (by simp [emptied])
  | forward r j d hj htag hchannel horder =>
    simpa only [takeForward, grant_fields, noteShort_fields, logScreenMark_fields] using
      hevaluated j.req (shownForward j (emptied s)) (emptied s) rfl
  | hold r j k hj hroom =>
    simpa only [takeHold, bringScan_fields, countHold_fields, noteShort_fields, logScreenMark_fields] using
      hevaluated j.req (.held k) (emptied s) rfl
  | refuse r j st hj hslot =>
    simpa only [takeRefuse, queueLocal_fields, countRefusal_fields, noteShort_fields, logRefusal_fields,
      logScreenMark_fields] using hevaluated j.req (.refused st) (noteOverflow j st (emptied s)) (by simp [emptied])
  | scans => rcases releaseScan_cases s with h | ⟨d, n, e, -, -, -, -, h⟩ <;> exact hsame (by simp [h, released])
  | leave n e r hn he hr hslot => exact hdrained _ (by simp [leaveRefused])
  | timeout d f ht hslot => exact hdrained _ (by simp [leaveLive])
  | relays h f ht => exact hdrained _ (by simp [leaveLive, atHead])
  | expiry g hc hdue =>
    have hbound : (replenishBound g s.gens[g].commitPending (expireGen g s)).triggers = s.triggers := by simp
    simp only [expire, armTriggers, mapVec_get_fin, hbound]
    exact triggerMove_armedBy c g _
  | frame p u hp hu => exact hu.triggers n
  | _ => exact hsame (by simp [takeMalformed, emptied, expireForce, expireRefuse, noteExpiry, atHead, returnOrphan,
      discardUnknown])

end Sys2Proof.Machine
end

section
/-! The tables, settings and entries that every step keeps sound, the one writer of each item of configuration, what a
step runs, and the resets. -/

namespace Sys2Proof.Machine

/-! ## Held and in-flight entries (R77, R78, R90, R98, R107) -/

/-- A held entry's soundness lasts (R77, R90, R91). -/
theorem sound_lasting : Lasting HoldEntry.Sound where
  refuse r e h := h
  force e h := by
    obtain ⟨hl, hu, hr, hf, hcost, hdata, hw⟩ := h
    exact ⟨hl, hu, Nat.zero_le _, fun _ => rfl, hcost, hdata, hw⟩
  ticked e h := by
    obtain ⟨hl, hu, hr, hf, hcost, hdata, hw⟩ := h
    refine ⟨hl, hu, ?_, fun hforced => ?_, hcost, hdata, satAdd_le _ _ _⟩
    · unfold HoldEntry.ticked
      dsimp only
      split <;> omega
    · have hzero := hf hforced
      unfold HoldEntry.ticked
      dsimp only
      split <;> omega
  aged e h := h

/-- What legal settings give a held and an in-flight entry (R174). -/
theorem limits_of_legal {x : Limits} (h : x.legal = true) :
    (1 ≤ x.holdLimit ∧ x.holdLimit ≤ 65535) ∧ x.responseLimit.getD 0 ≤ 65535 := by
  simp only [Limits.legal, Bool.and_eq_true, decide_eq_true_eq] at h
  obtain ⟨⟨⟨⟨⟨⟨⟨⟨hl, hu⟩, hr⟩, -⟩, -⟩, -⟩, -⟩, -⟩, -⟩ := h
  refine ⟨⟨hl, hu⟩, ?_⟩
  cases hx : x.responseLimit with
  | none => exact Nat.zero_le _
  | some n =>
    rw [hx] at hr
    simp only [optionWithin, Bool.and_eq_true, decide_eq_true_eq] at hr
    exact hr.2

/-- The entry a taken hold joins with is sound (R77, R78). -/
theorem heldEntry_sound {r : Request} {j : Judged} {s : State} (hlegal : s.limits.legal = true) (hj : j.Of r s)
    (k : Cause) : (heldEntry j.req k s).Sound := by
  obtain ⟨⟨hl, hu⟩, -⟩ := limits_of_legal hlegal
  obtain ⟨hcost, hdata, -, -⟩ := hj.facts
  refine ⟨hl, hu, le_rfl, fun h => absurd h Bool.false_ne_true, hcost, ?_, Nat.zero_le _⟩
  rw [HoldEntry.storeBeats_eq]
  exact hdata

/-- Every In-Flight Table entry is sound. -/
def TagsSound (s : State) : Prop := ∀ d : DownTag, s.tags[d].Sound

/-- An entry replaced by a sound one leaves the table sound. -/
theorem TagsSound.set {s t : State} (h : TagsSound s) {d : DownTag} {e : TagEntry} (he : e.Sound)
    (ht : t.tags = s.tags.set d e) : TagsSound t := by
  intro k
  rw [ht]
  by_cases hk : d = k
  · subst hk; simpa using he
  · have hne : (d : Nat) ≠ k := fun hh => hk (Fin.ext hh)
    simpa [hne] using h k

/-- A new LIVE entry is sound under legal settings (R98). -/
theorem flightOf_sound {s : State} (h : s.limits.legal = true) (p : Passage) : (TagEntry.live (flightOf p s)).Sound :=
  ⟨(limits_of_legal h).2, fun hpending => absurd hpending Bool.false_ne_true⟩

/-- A tick keeps an entry sound (R107). -/
theorem tagSound_ticked {e : TagEntry} (h : e.Sound) : e.ticked.Sound := by
  cases e with
  | free | orphaned f => exact h
  | live f =>
    unfold TagEntry.ticked
    dsimp only
    split
    · exact h
    · next hp =>
      refine ⟨?_, fun hpending => absurd hpending hp⟩
      obtain ⟨hr, -⟩ := h
      cases hrem : f.remaining with
      | none => simp
      | some n =>
        rw [hrem] at hr
        exact (Nat.sub_le n 1).trans hr

/-- Every event keeps the In-Flight Table sound. -/
theorem Event.tagsSound {c : Instr} {s t : State} (h : Event c s t) (hlegal : s.limits.legal = true)
    (hs : TagsSound s) : TagsSound t := by
  have hsame : t.tags = s.tags → TagsSound t := by
    intro ht d
    rw [ht]
    exact hs d
  cases h with
  | forward r j d hj htag hchannel horder =>
    exact hs.set (d := d) (e := .live (flightOf j.req s)) (flightOf_sound hlegal j.req)
      (by simp [takeForward, (grant_writes _ _ _).2, emptied, flightOf])
  | scans =>
    rcases releaseScan_cases s with h | ⟨d, n, e, -, -, -, -, h⟩ <;> rw [h] at hsame ⊢
    · exact hsame (by simp)
    · have hlegal' : (scanned s).limits.legal = true := by simpa using hlegal
      refine hs.set (d := d) (flightOf_sound hlegal' e.req) ?_
      simpa [released] using (grant_writes e.req d (scanned s)).2
  | deadline d f ht hzero =>
    have hd := hs d
    rw [ht] at hd
    exact hs.set (e := .live { f with timeoutPending := true }) ⟨hd.1, fun _ => hzero⟩ rfl
  | timeout d f ht hslot => exact hs.set (e := f.orphan) ⟨rfl, rfl⟩ (timeOut_tags d f s)
  | relays h f ht => exact hs.set trivial (relay_tags h f _)
  | late h f ht => exact hs.set (d := h.tag) (e := .free) trivial (by simp [returnOrphan, atHead])
  | ticks hc hdue =>
    intro d
    have hd : (tick s).tags[d] = s.tags[d].ticked := by simp [tick]
    rw [hd]
    exact tagSound_ticked (hs d)
  | frame p u hp hu => exact hsame hu.tags
  | expiry g hc hdue =>
    have ht : (expire g s).tags = s.tags := by simp
    intro d
    rw [ht]
    exact hs d
  | _ => exact hsame (by simp [takeMalformed, takeClash, takeHold, takeRefuse, emptied, leaveRefused, expireForce,
      expireRefuse, noteExpiry, atHead, discardUnknown])

/-- After a reset every entry is FREE (R97). -/
theorem tagsSound_reset : TagsSound State.reset := by
  intro d
  have hd : State.reset.tags[d] = .free := by simp [State.reset]
  rw [hd]
  trivial

/-- After a reset the settings are legal and there are no entries (R76, R97, R175). -/
theorem entriesSound_reset : State.reset.EntriesSound :=
  ⟨by decide, fun _ he => absurd he List.not_mem_nil, tagsSound_reset⟩

/-- Settles O9: the settings change only to what decodes, held entries keep what lasts, and each event's entry in the
table is sound. -/
theorem entriesStaySound : Obligations.EntriesStaySound := by
  unfold Obligations.EntriesStaySound
  refine step_keeps (fun s q h => h) (fun c s t _ hs h => ?_) fun c s t hs h => ?_
  · obtain ⟨hlegal, hheld, htags⟩ := hs
    refine ⟨?_, h.heldEntries sound_lasting hheld fun r j k hj => heldEntry_sound hlegal hj k, h.tagsSound hlegal htags⟩
    rcases h.limits with hl | ⟨f, -, hl⟩
    · rw [hl]; exact hlegal
    · exact decodeLimits_legal hl
  · cases h with
    | powerOn | pin => exact entriesSound_reset
    | ends p cause hc hphase => exact hs

/-! ## Generators, rules and triggers -/

/-- Every move keeps a generator sound (R61, R62). -/
theorem GenMove.sound {c : Instr} {g : Gen} {x y : Generator} (h : GenMove c g x y) (hx : x.Sound) : y.Sound := by
  obtain ⟨hl1, hl2, hs1, hs2, hr1, hr2, he⟩ := hx
  cases h with
  | same => exact ⟨hl1, hl2, hs1, hs2, hr1, hr2, he⟩
  | ticks =>
    unfold Generator.ticked
    split
    · exact ⟨hl1, hl2, hs1, hs2, hr1, hr2, fun _ => by dsimp only; omega⟩
    · refine ⟨hl1, hl2, hs1, hs2, ?_, ?_, fun hexp => ?_⟩ <;> dsimp only
      · omega
      · omega
      · have := he hexp; omega
  | expires hc =>
    unfold Generator.expired
    dsimp only
    split
    · exact ⟨hs1, hs2, hs1, hs2, hs1, le_rfl, fun hexp => absurd hexp Bool.false_ne_true⟩
    · exact ⟨hl1, hl2, hs1, hs2, hl1, le_rfl, fun hexp => absurd hexp Bool.false_ne_true⟩
  | restarts => exact ⟨hl1, hl2, hs1, hs2, hl1, le_rfl, fun hexp => absurd hexp Bool.false_ne_true⟩
  | staged f p hc hp =>
    obtain ⟨hp1, hp2⟩ := decodePeriod_range hp
    exact ⟨hl1, hl2, hp1, hp2, hr1, hr2, he⟩
  | pending b => exact ⟨hl1, hl2, hs1, hs2, hr1, hr2, he⟩

/-- Every move keeps a trigger's pattern legal, and a disabled one disarmed (R117, R120). -/
theorem TriggerMove.legal {c : Instr} {x y : Trigger} (h : TriggerMove c x y)
    (hx : x.pattern.legal = true ∧ (x.armed = true → x.enabled = true)) :
    y.pattern.legal = true ∧ (y.armed = true → y.enabled = true) := by
  obtain ⟨hp, ha⟩ := hx
  cases h with
  | armed b hb => exact ⟨hp, fun h => (hb h).elim ha id⟩
  | written f y hc hy =>
    obtain ⟨hlegal, harmed⟩ := decodeTrigger_legal hy
    exact ⟨hlegal, fun h => harmed ▸ h⟩

/-- After a reset every generator is sound and every table legal (R20, R61, R116). -/
theorem periods_tables_reset : State.reset.PeriodsSound ∧ State.reset.TablesLegal := by
  refine ⟨fun g => ?_, fun n => ?_, fun n => ?_⟩
  · have hg : State.reset.gens[g] = Generator.reset := by simp [State.reset]
    rw [hg]
    decide
  · have hn : State.reset.rules[n] = RuleEntry.reset := by simp [State.reset]
    rw [hn]
    decide
  · have hn : State.reset.triggers[n] = Trigger.reset := by simp [State.reset]
    rw [hn]
    decide

/-- Every event keeps the Rule Table legal (R21). -/
theorem Event.rulesLegal {c : Instr} {s t : State} (h : Event c s t) (hs : ∀ n : RuleId, s.rules[n].pattern.legal = true)
    (n : RuleId) : t.rules[n].pattern.legal = true := by
  rcases h.rules with h | ⟨f, m, x, -, hx, h⟩
  · rw [h]; exact hs n
  · rw [h]
    by_cases hm : (m : Nat) = n
    · simpa [hm] using decodeRule_legal hx
    · simpa [hm] using hs n

/-- Settles O10, by the moves of each generator and trigger and the writes of the Rule Table. -/
theorem periodsAndTablesKept : Obligations.PeriodsAndTablesKept := by
  unfold Obligations.PeriodsAndTablesKept
  refine step_keeps (P := fun s => s.PeriodsSound ∧ s.TablesLegal) (fun s q h => h) (fun c s t _ hs h => ?_)
    fun c s t hs h => ?_
  · obtain ⟨hgens, hrules, htriggers⟩ := hs
    exact ⟨fun g => (h.gens g).sound (hgens g), h.rulesLegal hrules, fun n => (h.triggers n).legal (htriggers n)⟩
  · cases h with
    | powerOn | pin => exact periods_tables_reset
    | ends p cause hc hphase => exact hs

/-! ## One writer for each item -/

/-- What is only noted leaves every mask (R134). -/
theorem Noted.masks {s t : State} (h : Noted s t) (i : Fin 13) :
    (t.events.flags[i]).enabled = (s.events.flags[i]).enabled := by
  have hraise : ∀ (f : Flag) (e : Events), ((e.raise f).flags[i]).enabled = (e.flags[i]).enabled := by
    intro f e
    rw [raise_flags]
    split <;> rfl
  induction h with
  | same hlog hevents => rw [hevents]
  | raises f hf h ih => exact (hraise f _).trans ih
  | watermark l h ih => exact (hraise .watermark _).trans ih
  | exhausted l h ih => exact (hraise .exhausted _).trans ih
  | commitDone g h ih => exact (hraise .commitDone _).trans ih
  | @record u b h ih =>
    by_cases hroom : u.log.records.length < Config.logCapacity
    · rw [(logRecord_stored hroom).2]
      split
      · exact (hraise .logLevel _).trans ih
      · exact ih
    · rw [(logRecord_lost hroom).2]
      exact (hraise .logLost _).trans ih
  | kept h hlog hevents ih => rw [hevents]; exact ih

/-- A mask changes at a MASKS write alone (R133). -/
theorem Event.masks {c : Instr} {s t : State} (h : Event c s t) (i : Fin 13) :
    (t.events.flags[i]).enabled = (s.events.flags[i]).enabled ∨ ∃ f, c = .masksWrite f := by
  rcases h.noted with h | ⟨n, -, h⟩ | ⟨ps, -, h⟩ | ⟨f, ms, hc, -⟩
  · exact .inl (h.masks i)
  · exact .inl (by rw [h])
  · left
    rw [h]
    simp only [Events.cleared, mapVec_get_fin]
    split <;> rfl
  · exact .inr ⟨f, hc⟩

/-- A live period changes at its generator's expiry alone (R61). -/
theorem GenMove.livePeriod {c : Instr} {g : Gen} {x y : Generator} (h : GenMove c g x y) :
    y.livePeriod = x.livePeriod ∨ c = .periodGeneratorExpiry g := by
  cases h with
  | expires hc => exact .inr hc
  | ticks => exact .inl (by unfold Generator.ticked; split <;> rfl)
  | same | restarts | staged f p hc hp | pending b => exact .inl rfl

/-- A staged period changes at a PERIOD write alone (R61). -/
theorem GenMove.stagedPeriod {c : Instr} {g : Gen} {x y : Generator} (h : GenMove c g x y) :
    y.stagedPeriod = x.stagedPeriod ∨ ∃ f, c = .periodWrite f := by
  cases h with
  | staged f p hc hp => exact .inr ⟨f, hc⟩
  | ticks => exact .inl (by unfold Generator.ticked; split <;> rfl)
  | same | restarts | expires hc | pending b => exact .inl rfl

/-- A trigger's software-written fields change at a TRIGGER write alone (R116, R117). -/
theorem TriggerMove.fields {c : Instr} {x y : Trigger} (h : TriggerMove c x y) :
    { y with armed := x.armed } = x ∨ ∃ f, c = .triggerWrite f := by
  cases h with
  | armed b hb => exact .inl rfl
  | written f y hc hy => exact .inr ⟨f, hc⟩

/-- Settles O15: `Event` says of each item what may change it. -/
theorem configurationHasOneWriter : Obligations.ConfigurationHasOneWriter := by
  unfold Obligations.ConfigurationHasOneWriter
  intro c s t hexec hpower hpin
  rcases exec_next_cases hexec with rfl | ⟨-, h⟩ | h
  · simp
  · refine ⟨fun hne => h.timebase.resolve_left hne, fun hne => ?_, fun hne => ?_, fun l hne => ?_, fun l hne => ?_,
      fun g hne => ?_, fun g hne => ?_, fun i hne => (h.masks i).resolve_left hne, fun n hne => ?_, fun hne => ?_⟩
    · obtain ⟨f, -, -, hc, -⟩ := h.rules.resolve_left hne
      exact ⟨f, hc⟩
    · obtain ⟨f, hc, -⟩ := h.limits.resolve_left hne
      exact ⟨f, hc⟩
    · rcases h.laneRecords l with ⟨hst, -⟩ | ⟨f, hc, -⟩ | ⟨g, -, hst⟩
      · exact absurd hst hne
      · exact ⟨f, hc⟩
      · exact absurd hst hne
    · rcases h.laneRecords l with ⟨-, hlv⟩ | ⟨f, -, hlv⟩ | ⟨g, hc, -⟩
      · exact absurd hlv hne
      · exact absurd hlv hne
      · exact ⟨g, hc⟩
    · exact (h.gens g).livePeriod.resolve_left hne
    · exact (h.gens g).stagedPeriod.resolve_left hne
    · exact (h.triggers n).fields.resolve_left hne
    · obtain ⟨hs, hc⟩ := h.straps
      exact (hne.elim (absurd hs) (absurd hc))
  · cases h with
    | powerOn hc => exact absurd hc hpower
    | pin hc => exact absurd hc hpin
    | ends p cause hc hphase => simp [leaveReset, hc]

/-! ## Steps -/

/-- Settles O1: both cases are `step`'s own. -/
theorem stepRunsFrontCommand : Obligations.StepRunsFrontCommand := by
  unfold Obligations.StepRunsFrontCommand
  refine ⟨fun c rest s hq => ?_, fun s hq => ?_⟩
  · rw [step, hq]
  · rw [step, hq]

/-- An event leaves the queue of commands. -/
theorem Event.pending {c : Instr} {s t : State} (h : Event c s t) : t.pending = s.pending := by
  cases h with
  | scans => rcases releaseScan_cases s with h | ⟨g, n, e, -, -, -, -, h⟩ <;> simp [h, released]
  | frame p u hp hu => cases hu <;> simp [resumed, restartFrom]
  | _ => simp [takeMalformed, takeClash, takeForward, takeHold, takeRefuse, emptied, leaveRefused,
      expireForce, expireRefuse, noteExpiry, timeOut, relay, leaveLive, atHead, returnOrphan, discardUnknown]

/-- Settles O2: every command answers a next state (`exec_cases`), and no event touches the queue. -/
theorem everyCommandGoesOn : Obligations.EveryCommandGoesOn := by
  unfold Obligations.EveryCommandGoesOn
  intro c s
  have hnext : ∃ t, exec c s = .next t := by
    rcases exec_cases c s with h | ⟨-, h⟩ | ⟨t, -, h⟩ <;> exact ⟨_, h⟩
  obtain ⟨t, ht⟩ := hnext
  refine ⟨t, ht, ?_⟩
  rcases exec_next_cases ht with rfl | ⟨-, h⟩ | h
  · rfl
  · exact h.pending
  · cases h <;> rfl

/-! ## Resets -/

/-- Settles O3: the reset values stand in `State.reset`, table by table. -/
theorem resetLeavesResetValues : Obligations.ResetLeavesResetValues := by
  unfold Obligations.ResetLeavesResetValues
  refine ⟨fun n => ?_, fun l => ?_, fun g => ?_, fun t => ?_, rfl, fun t => ?_, rfl, rfl, rfl, rfl, rfl, rfl, fun i => ?_,
    rfl, rfl, rfl, by decide, rfl, fun k => ?_, rfl, rfl, rfl, rfl⟩
  · simp [State.reset, RuleEntry.reset, Pattern.reset]
  · simp [State.reset, Lane.reset, LaneConfig.reset, Config.maxBudget]
  · simp [State.reset, Generator.reset]
  · simp [State.reset, Trigger.reset, Pattern.reset, Config.maxPage]
  · simp [State.reset]
  · simp [State.reset, Events.reset]
  · simp [State.reset, Faults.reset]

/-- Settles O4, promise by promise. -/
theorem resetIsSound : Obligations.ResetIsSound where
  bounded := boundedReset
  counted := ⟨Nat.zero_le _, faultsWithin_reset⟩
  solvent := ⟨lanesSound_reset rfl, fun _ he => absurd he List.not_mem_nil⟩
  tagsUnique := tagsUnique_reset rfl rfl
  liveCounted := liveCounted_reset rfl rfl
  entriesSound := entriesSound_reset
  periodsSound := periods_tables_reset.1
  tablesLegal := periods_tables_reset.2
  setsAgree := setsAgree_reset
  modeSound := ⟨.inl rfl, rfl, rfl⟩

/-- Settles O51: each reset command's meaning, and `exec_inReset` for every other command while a reset lasts. -/
theorem resetsAndTheirEnd : Obligations.ResetsAndTheirEnd := by
  unfold Obligations.ResetsAndTheirEnd
  intro s
  refine ⟨rfl, fun h => ?_, fun h => ?_, fun c p h => ?_, fun p h => ?_, fun i c h hpower hpin hend => ?_⟩
  · show execPinReset s = _
    unfold execPinReset
    split
    · rfl
    · rfl
    · next hp => exact absurd hp h
  · show execPinReset s = _
    simp only [execPinReset, h]
  · show execResetEnd p s = _
    simp only [execResetEnd, h]
    rfl
  · show execResetEnd p s = _
    simp only [execResetEnd, h]
  · refine exec_inReset h ?_
    cases i with
    | powerOnReset => exact absurd rfl hpower
    | pinReset => exact absurd rfl hpin
    | resetEnd p => exact absurd rfl (hend p)
    | _ => rfl

end Sys2Proof.Machine
end

section
/-! The checks of a taking (R6 to R12): classification, the lane test, resources, the stall, the two protocol refusals;
and the triggers' evaluation (R119, R120). -/

namespace Sys2Proof.Machine

/-! ## The first of a table -/

/-- The entry of lowest index that satisfies `p` is found. -/
theorem find?_finRange_eq_some {n : Nat} {p : Fin n → Bool} {i : Fin n} :
    (List.finRange n).find? p = some i ↔ p i = true ∧ ∀ k < i, p k = false := by
  have hfound : ∀ {j : Fin n}, (List.finRange n).find? p = some j → p j = true ∧ ∀ k < j, p k = false := by
    intro j h
    obtain ⟨hj, as, bs, hsplit, hbefore⟩ := List.find?_eq_some_iff_append.mp h
    refine ⟨hj, fun k hk => ?_⟩
    have hsorted : (as ++ j :: bs).Pairwise (· < ·) := hsplit ▸ List.pairwise_lt_finRange n
    have hmem : k ∈ as ++ j :: bs := hsplit ▸ List.mem_finRange k
    rcases List.mem_append.mp hmem with hmem | hmem
    · simpa using hbefore k hmem
    · obtain ⟨-, hafter, -⟩ := List.pairwise_append.mp hsorted
      rcases List.mem_cons.mp hmem with rfl | hmem
      · exact absurd hk (lt_irrefl _)
      · exact absurd (hk.trans ((List.pairwise_cons.mp hafter).1 k hmem)) (lt_irrefl _)
  refine ⟨hfound, fun ⟨hi, hbefore⟩ => ?_⟩
  cases hfind : (List.finRange n).find? p with
  | none => exact absurd hi (by simpa using List.find?_eq_none.mp hfind i (List.mem_finRange i))
  | some j =>
    obtain ⟨hj, hj'⟩ := hfound hfind
    rcases lt_trichotomy i j with hlt | rfl | hlt
    · rw [hj' i hlt] at hi; cases hi
    · rfl
    · rw [hbefore j hlt] at hj; cases hj

/-- An entry is FREE by the table's own test (R97). -/
theorem TagEntry.isFree_iff (e : TagEntry) : e.isFree = true ↔ e = .free := by
  cases e <;> simp [TagEntry.isFree]

/-- The lowest-numbered FREE tag (R99). -/
theorem lowestFree_iff {s : State} {t : DownTag} :
    lowestFree s = some t ↔ s.tags[t] = .free ∧ ∀ u : DownTag, u < t → s.tags[u] ≠ .free := by
  rw [lowestFree, find?_finRange_eq_some, TagEntry.isFree_iff]
  simp only [← TagEntry.isFree_iff, ne_eq, Bool.not_eq_true]

/-! ## Classification (R24 to R32) -/

/-- A matched entry's classification, field by field (R27, R28, R29). -/
theorem classify_eq (n : RuleId) (e : RuleEntry) :
    e.classify n = { lane := if e.action = .govern then some e.lane else none, rule := some n,
                     screened := decide (e.action = .refuse), entryLogs := e.logRefusals } := by
  unfold RuleEntry.classify
  cases e.action <;> rfl

/-- Out of BYPASS the Rule Table is asked (R32). -/
theorem classifyIn_of_ne {m : Mode} (h : m ≠ .bypass) (p : Passage) (s : State) : classifyIn m p s = classify p s := by
  cases m with
  | bypass => exact absurd rfl h
  | monitor | govern => rfl

/-- Settles O18: BYPASS asks nothing, and out of it the matched entry or the strap decides. -/
theorem classificationOutcome : Obligations.ClassificationOutcome := by
  unfold Obligations.ClassificationOutcome
  intro p s m
  refine ⟨?_, fun hm hnone => ?_, fun hm n hn hbefore => ?_⟩
  · rintro rfl; rfl
  · have hmatched : matchedRule p s = none := by simp [matchedRule, -Fin.getElem_fin, hnone]
    rw [classifyIn_of_ne hm, classify, hmatched]
    rfl
  · have hmatched : matchedRule p s = some n := find?_finRange_eq_some.mpr ⟨hn, hbefore⟩
    rw [classifyIn_of_ne hm, classify, hmatched]
    exact classify_eq n _

/-! ## Checks 5 and 6 (R29, R31, R39) -/

/-- The lane test at taking is the table of R39. -/
theorem intent_table (x : Lane) :
    (x.Credit → x.Concurrency → x.intent = .forward) ∧
    (x.Credit → ¬ x.Concurrency → x.intent = .hold .concurrency) ∧
    (¬ x.Credit → x.live.policy = .hold → x.intent = .hold .budget) ∧
    (¬ x.Credit → x.live.policy = .refuse → x.intent = .refuse .refusedRate) ∧
    (¬ x.Credit → x.live.policy = .mark → x.Concurrency → x.intent = .forward) ∧
    (¬ x.Credit → x.live.policy = .mark → ¬ x.Concurrency → x.intent = .hold .concurrency) := by
  rw [← Lane.hasCredit_iff, ← Lane.hasConcurrency_iff]
  unfold Lane.intent
  refine ⟨fun hc hk => ?_, fun hc hk => ?_, fun hc hp => ?_, fun hc hp => ?_, fun hc hp hk => ?_, fun hc hp hk => ?_⟩
  · rw [if_pos hc, if_pos hk]
  · rw [if_pos hc, if_neg hk]
  · rw [if_neg hc, hp]
  · rw [if_neg hc, hp]
  · rw [if_neg hc, hp]; exact if_pos hk
  · rw [if_neg hc, hp]; exact if_neg hk

/-- Settles O19: out of GOVERN no test is made; in it the screen comes first, then the lane test. -/
theorem laneTestAtTaking : Obligations.LaneTestAtTaking := by
  unfold Obligations.LaneTestAtTaking
  intro m c s
  refine ⟨fun hm => ?_, ?_, ?_, ?_⟩
  · cases m with
    | govern => exact absurd rfl hm
    | bypass | monitor => simp [policyIntent, testedLane]
  · rintro rfl hscreened
    simp [policyIntent, hscreened]
  · rintro rfl hscreened hl
    simp [policyIntent, testedLane, hscreened, hl]
  · rintro rfl hscreened l hl
    have htest : policyIntent .govern c s = s.lanes[l].intent := by
      simp [policyIntent, testedLane, hscreened, hl]
    rw [htest]
    exact intent_table s.lanes[l]

/-! ## Checks 7 to 9 (R10, R11, R12) -/

/-- A refusal's slot, as the number of responses queued (R12, R15). -/
theorem ifSlot_eq (s : State) (d : Decision) : ifSlot s d = if s.localQueue.length < 16 then d else .stall :=
  if_congr (slotFree_iff s) rfl rfl

/-- Order, as the requesters held (R80). -/
theorem hasHeld_iff (r : Requester) (s : State) : hasHeld r s = true ↔ ∃ e ∈ s.hold, e.req.requester = r := by
  simp [hasHeld]

/-- With room a hold is a hold. -/
theorem holdOrFull_room {j : Judged} {s : State} (h : hasRoom j.req s = true) (k : Cause) :
    holdOrFull j k s = .hold j k := by
  rw [holdOrFull, if_pos h]

/-- Without room the full action decides (R95). -/
theorem holdOrFull_full {j : Judged} {s : State} (h : ¬ hasRoom j.req s = true) (k : Cause) :
    holdOrFull j k s = if s.limits.fullAction = .refuse ∧ s.localQueue.length < 16 then .refuse j .refusedFull
      else .stall := by
  rw [holdOrFull, if_neg h]
  cases hf : s.limits.fullAction with
  | stall => simp
  | refuse => simp [ifSlot_eq]

/-- Check 8 with a FREE tag (R11, R85). -/
theorem forwardOrWait_free {j : Judged} {s : State} {t : DownTag} (h : lowestFree s = some t) :
    forwardOrWait j s = if s.downRequest = none ∧ heldEligible s = false then .forward j t else .stall := by
  simp only [forwardOrWait, h]
  refine if_congr ?_ rfl rfl
  simp

/-- Check 8 without a FREE tag is a hold with cause TAGS. -/
theorem forwardOrWait_none {j : Judged} {s : State} (h : lowestFree s = none) :
    forwardOrWait j s = holdOrFull j .tags s := by
  simp only [forwardOrWait, h]

/-- A held entry is eligible for an arrival: a tag is FREE and some entry is judged eligible (R83, R85, R86). -/
theorem heldEligible_iff (s : State) : heldEligible s = true ↔ (∃ t : DownTag, s.tags[t] = .free) ∧
    ∃ n e, s.hold[n]? = some e ∧ (judge s (s.hold.take n) e).isEligible = true := by
  rw [heldEligible, Bool.and_eq_true, someEligible_iff]
  refine and_congr ?_ Iff.rfl
  rw [← Option.ne_none_iff_isSome, ne_eq, lowestFree_none]
  simp only [← TagEntry.isFree_iff, not_forall, Bool.not_eq_false]

/-- Settles O20, check by check. -/
theorem resourceChecks : Obligations.ResourceChecks := by
  unfold Obligations.ResourceChecks
  refine ⟨fun r s m p hm hform hcarries => ?_, heldEligible_iff, fun s t => lowestFree_iff⟩
  have hclash : ¬ clashes p.tag s = true := mt (clashes_iff p.tag s).mp hcarries
  have heval : evaluate r s = evaluateIn m p s := by rw [evaluate_formed hm hform, if_neg hclash]
  have hroom := hasRoom_iff (judged m p (classifyIn m p s) s).req s
  have hordered := hasHeld_iff p.requester s
  rw [heval]
  unfold evaluateIn
  dsimp only
  refine ⟨rfl, fun st h => ?_, fun k h hr => ?_, fun h ho hr => ?_, fun h ho htag hr => ?_, fun hr h => ?_,
    fun t h ho htag => ?_⟩
  · rw [h]
    exact ifSlot_eq s _
  · rw [h]
    exact holdOrFull_room (hroom.mpr hr) k
  · rw [h, orderIntent, if_pos (hordered.mpr ho)]
    exact holdOrFull_room (hroom.mpr hr) .order
  · rw [h, orderIntent, if_neg (mt hordered.mp ho), settle, forwardOrWait_none htag]
    exact holdOrFull_room (hroom.mpr hr) .tags
  · have hfull := fun k => holdOrFull_full (mt hroom.mp hr) k
    rcases h with ⟨k, h⟩ | ⟨h, hwait⟩
    · rw [h]
      exact hfull k
    · rw [h, orderIntent]
      split
      · exact hfull .order
      · next ho =>
        have htag := hwait.resolve_left (mt hordered.mpr ho)
        rw [settle, forwardOrWait_none htag]
        exact hfull .tags
  · rw [h, orderIntent, if_neg (mt hordered.mp ho)]
    exact forwardOrWait_free htag

/-! ## The stall and the protocol refusals -/

/-- Settles O25: a stall by `evaluate` itself, its disposition, and a record not brought on. -/
theorem stallLeavesNoTrace : Obligations.StallLeavesNoTrace := by
  unfold Obligations.StallLeavesNoTrace
  refine ⟨fun o r s _ hm => ?_, fun o r s h hstall => ?_, fun o r s hrun hoffer hdue => ?_⟩
  · by_contra hne
    obtain ⟨m, hop⟩ := evaluate_operating hne
    exact hm m hop
  · rw [exec_requestTaken h, hstall]
    rfl
  · rw [exec_running hrun rfl]
    simp [effect, evaluateHead, evaluationDue, hoffer, hdue]

/-- A well-formed request carries the offered record's tag. -/
theorem wellFormedRequest_tag {r : Request} {p : Passage} (h : wellFormedRequest r = some p) : p.tag = r.tag :=
  (malformedExactly r).2 p h |>.2.1

/-- A local response joins behind the responses queued (R15). -/
theorem queueLocal_eq {u : State} {q : List LocalResponse} (h : u.localQueue = q) (tag : UpTag) (st : Status) :
    queueLocal tag st u = { u with localQueue := q ++ [{ tag := tag, status := st }] } := by
  rw [queueLocal, h]

/-- Settles O21: the disposition of each of the two protocol refusals. -/
theorem protocolRefusalTaken : Obligations.ProtocolRefusalTaken := by
  unfold Obligations.ProtocolRefusalTaken
  intro o r s m h hm hslot
  have hfree : slotFree s = true := (slotFree_iff s).mpr hslot
  refine ⟨fun hform => ?_, fun p hform hcarries => ?_⟩
  · rw [exec_requestTaken h, evaluate_malformed hm hform, ifSlot, if_pos hfree]
    exact congrArg _ (queueLocal_eq (by simp) r.tag .refusedProtocol)
  · have hclash : clashes p.tag s = true := (clashes_iff p.tag s).mpr (wellFormedRequest_tag hform ▸ hcarries)
    rw [exec_requestTaken h, evaluate_formed hm hform, if_pos hclash, ifSlot, if_pos hfree]
    exact congrArg _ (queueLocal_eq (by simp) r.tag .refusedProtocol)

/-! ## The triggers' evaluation (R119, R120) -/

/-- The trigger set, bit by bit, over any list of triggers (R119). -/
theorem foldl_twoPow_getLsbD {n : Nat} (f : Fin n → Bool) (ls : List (Fin n)) (b : BitVec n) (k : Fin n) :
    (ls.foldl (fun b i => if f i then b ||| BitVec.twoPow n i else b) b).getLsbD k =
      (b.getLsbD k || (decide (k ∈ ls) && f k)) := by
  induction ls generalizing b with
  | nil => simp
  | cons i ls ih =>
    rw [List.foldl_cons, ih]
    by_cases hk : k = i
    · subst hk
      cases hf : f k <;> simp
    · have hne : (k : Nat) ≠ i := fun h => hk (Fin.ext h)
      cases hf : f i <;> simp [hk, hne]

/-- The trigger set of a record, bit by bit (R119). -/
theorem firedSet_getLsbD (p : Passage) (ts : Vector Trigger 8) (k : TriggerId) :
    (firedSet p ts).getLsbD k = ts[k].fires p := by
  have h := foldl_twoPow_getLsbD (fun t : Fin 8 => ts[t].fires p) (List.finRange 8) 0 k
  simpa [firedSet] using h

/-- A match disarms ONCE and FIRST_IN_PERIOD (R120). -/
theorem matched_eq (t : Trigger) : t.matched = if t.mode ≠ .every then { t with armed := false } else t := by
  unfold Trigger.matched
  cases t.mode <;> rfl

/-- Some trigger of the table fires. -/
theorem any_fires_iff (p : Passage) (ts : Vector Trigger 8) :
    ts.toList.any (fun t => t.fires p) = true ↔ ∃ k : TriggerId, ts[k].fires p = true := by
  rw [List.any_eq_true]
  constructor
  · rintro ⟨t, ht, h⟩
    obtain ⟨i, hi, rfl⟩ := List.mem_iff_getElem.mp ht
    exact ⟨⟨i, by simpa using hi⟩, by simpa using h⟩
  · rintro ⟨k, h⟩
    exact ⟨ts[k], by simp, h⟩

/-- The triggers' evaluation with a match: one record, then what a match disarms (R119, R120). -/
theorem evaluateTriggers_fired {p : Passage} {s : State} (h : ∃ k : TriggerId, s.triggers[k].fires p = true)
    (shown : Shown) : evaluateTriggers p shown s =
      logRecord (.trigger p.record p.lane p.rule (firedSet p s.triggers) shown)
      { s with triggers := mapVec (fun _ t => if t.fires p then t.matched else t) s.triggers } := by
  rw [evaluateTriggers, if_pos ((any_fires_iff p s.triggers).mpr h)]

/-- The log and the Event Unit after a record do not depend on the triggers. -/
theorem logRecord_of_triggers (b : RecordBody) (s : State) (ts : Vector Trigger 8) :
    (logRecord b { s with triggers := ts }).log = (logRecord b s).log ∧
      (logRecord b { s with triggers := ts }).events = (logRecord b s).events :=
  logRecord_log_events_congr b rfl rfl rfl rfl

/-- Settles O26: without a match nothing, with one the record of all that matched. -/
theorem triggersEvaluated : Obligations.TriggersEvaluated := by
  unfold Obligations.TriggersEvaluated
  intro p shown s
  refine ⟨fun hnone => ?_, fun hsome => ⟨firedSet p s.triggers, firedSet_getLsbD p s.triggers, fun t => ?_, ?_, ?_, ?_⟩⟩
  · rw [evaluateTriggers, if_neg]
    rw [any_fires_iff]
    rintro ⟨k, hk⟩
    exact Bool.false_ne_true ((hnone k).symm.trans hk)
  · rw [evaluateTriggers_fired hsome]
    simp only [logRecord_fields, mapVec_get_fin, matched_eq]
    by_cases hf : s.triggers[t].fires p = true <;> simp [hf, -Fin.getElem_fin]
  · rw [evaluateTriggers_fired hsome]
    exact (logRecord_of_triggers _ s _).1
  · rw [evaluateTriggers_fired hsome]
    exact (logRecord_of_triggers _ s _).2
  · exact State.ext_fields (by simp)

end Sys2Proof.Machine
end

section
/-! The events of the Hold Queue's entries, of the channels and of the responses, each as the whole next state (R1 to R4,
R15 to R18, R52, R90 to R94, R101 to R105, R125, R156). -/

namespace Sys2Proof.Machine

/-! ## Held entries -/

/-- An entry refused anew takes the status; a refusal pending one keeps its own (R93). -/
theorem refuse_eq (r : HoldRefusal) (e : HoldEntry) :
    e.refuse r = if e.refusal = none then { e with refusal := some r } else e := by
  cases e with
  | mk req cause takenAt holdLimit remaining aged forced refusal waited => cases refusal <;> rfl

/-- The update of the entry that stands at position `n`. -/
theorem modify_eq_set_of_getElem? {α : Type} {l : List α} {n : Nat} {a : α} (h : l[n]? = some a) (f : α → α) :
    l.modify n f = l.set n (f a) := by
  rw [List.modify_eq_set_getElem?, h]
  rfl

/-- Settles O36, by the three events of a countdown, each at its due moment. -/
theorem heldEntryAgesAndExpires : Obligations.HeldEntryAgesAndExpires := by
  unfold Obligations.HeldEntryAgesAndExpires
  intro n s e hrun he hforced hrefusal
  have hwaits : e.waits = true := by simp [HoldEntry.waits, hforced, hrefusal]
  refine ⟨fun haged hhalf hne => ?_, fun hzero hact => ?_, fun hzero hact => ?_⟩
  · have hdue : e.agingDue = true := by simp [HoldEntry.agingDue, hwaits, haged, ← hhalf, hne]
    rw [exec_running hrun rfl]
    simp only [effect, ageHeld, he, hdue, if_true, updateHeld, modify_eq_set_of_getElem? he]
    rfl
  · have hdue : e.expiryDue = true := by simp [HoldEntry.expiryDue, hwaits, hzero]
    rw [exec_running hrun rfl]
    simp only [effect, expireHeld, he, hdue, hact, and_self, if_true]
    rfl
  · have hdue : e.expiryDue = true := by simp [HoldEntry.expiryDue, hwaits, hzero]
    rw [exec_running hrun rfl]
    simp only [effect, expireHeld, he, hdue, hact, and_self, if_true, expireRefuse, updateHeld,
      modify_eq_set_of_getElem? he, refuse_eq, if_pos hrefusal]
    rfl

/-- The oldest refusal pending entry stands behind those that are not (R94). -/
theorem oldestRefused_split {older younger : List HoldEntry} {e : HoldEntry} (holder : ∀ x ∈ older, x.refusal = none)
    (he : e.refusal.isSome = true) : oldestRefused (older ++ e :: younger) = some older.length := by
  rw [oldestRefused, List.findIdx?_append, List.findIdx?_eq_none_iff.mpr]
  · simp [List.findIdx?_cons, he]
  · intro x hx
    simp [holder x hx]

/-- The claim of the oldest refusal pending entry, with a slot free (R94). -/
theorem exec_refusalPendingQueued {s : State} {older younger : List HoldEntry} {e : HoldEntry} {r : HoldRefusal}
    (hrun : s.phase = .running) (hslot : s.localQueue.length < 16) (hq : s.hold = older ++ e :: younger)
    (holder : ∀ x ∈ older, x.refusal = none) (hr : e.refusal = some r) :
    exec .refusalPendingQueued s = .next (judgeDrained (bringOn (recordLeaving e r { s with
      hold := older ++ younger
      localQueue := s.localQueue ++ [{ tag := e.req.tag, status := r.status }] }))) := by
  have hn : oldestRefused s.hold = some older.length := by
    rw [hq]
    exact oldestRefused_split holder (by rw [hr]; rfl)
  have he : s.hold[older.length]? = some e := by simp [hq]
  have herase : s.hold.eraseIdx older.length = older ++ younger := by
    rw [hq, List.eraseIdx_append_of_length_le le_rfl, Nat.sub_self]
    rfl
  rw [exec_running hrun rfl]
  simp only [effect, queueOldestRefused, hn, he, hr, (slotFree_iff s).mpr hslot, if_true, leaveRefused, herase]
  rfl

/-- Settles O35: what each status counts and records. -/
theorem refusalPendingLeaves : Obligations.RefusalPendingLeaves := by
  unfold Obligations.RefusalPendingLeaves
  intro s older younger e hrun hslot hq holder
  refine ⟨fun hr => ?_, fun hr => ?_, fun hr => ?_⟩
  · exact exec_refusalPendingQueued hrun hslot hq holder hr
  · exact exec_refusalPendingQueued hrun hslot hq holder hr
  · rw [exec_refusalPendingQueued hrun hslot hq holder hr]
    cases hl : e.req.lane <;> simp only [recordLeaving, countRefusal, hl] <;> rfl

/-- Settles O50: the withdrawal, the count and the stopped timer, in whichever order they are written. -/
theorem quiesceForcedWithdraws : Obligations.QuiesceForcedWithdraws := by
  unfold Obligations.QuiesceForcedWithdraws
  intro s hrun hm htimer
  have hdue : quiesceDue s = true := by simp [quiesceDue, hm, htimer]
  have hwithdrawn : HoldEntry.refuse .withdrawn =
      fun e : HoldEntry => if e.refusal = none then { e with refusal := some .withdrawn } else e :=
    funext (refuse_eq .withdrawn)
  rw [exec_running hrun rfl]
  simp only [effect, forceQuiesce, hdue, if_true, withdrawAll, hwithdrawn]
  rfl

/-! ## The channels -/

/-- Settles O37, channel by channel. -/
theorem channelsFreed : Obligations.ChannelsFreed := by
  unfold Obligations.ChannelsFreed
  intro s hrun
  refine ⟨fun d hd => ?_, fun x hx => ?_, fun b => rfl⟩
  · rw [exec_running hrun rfl]
    simp only [effect, downstreamTaken, hd]
  · rw [exec_running hrun rfl]
    simp only [effect, upstreamTaken, relaying, hx, beq_iff_eq]

/-- A free channel relays nothing (R17). -/
theorem relaying_of_none {s : State} (h : s.upResponse = none) : relaying s = false := by
  simp only [relaying, h]

/-- With the channel free, the memory side waits when a response for a LIVE tag does (R18). -/
theorem memoryWaits_iff {s : State} (h : s.upResponse = none) :
    memoryWaits s = true ↔ ∃ m, s.downResponse = some m ∧ s.tags[m.tag].isLive = true := by
  unfold memoryWaits
  cases s.downResponse with
  | none => simp
  | some m => simp [relaying_of_none h]

/-- The local side's grant (R18). -/
theorem localGranted_iff (s : State) : localGranted s = true ↔ s.upResponse = none ∧
    (¬ (∃ m, s.downResponse = some m ∧ s.tags[m.tag].isLive = true) ∨ s.turn = .localSide) := by
  unfold localGranted
  cases h : s.upResponse with
  | some x => simp
  | none => rw [← memoryWaits_iff h]; simp

/-- Settles O41: granted, the oldest response goes; otherwise nothing. -/
theorem localResponseGranted : Obligations.LocalResponseGranted := by
  unfold Obligations.LocalResponseGranted
  intro s hrun
  rw [exec_running hrun rfl]
  simp only [effect, sendLocal]
  refine ⟨fun x rest hq hup hturn => ?_, fun hwait => ?_⟩
  · have hgrant := (localGranted_iff s).mpr ⟨hup, hturn⟩
    simp only [hq, hgrant, if_true]
    rfl
  · cases hq : s.localQueue with
    | nil => rfl
    | cons x rest =>
      have hnot : ¬ localGranted s = true := by
        rw [localGranted_iff]
        rintro ⟨hup, hturn⟩
        rcases hwait with h | h | ⟨hmem, hside⟩
        · rw [hq] at h; cases h
        · exact h hup
        · rcases hturn with h | h
          · exact h hmem
          · rw [hside] at h; cases h
      simp only [if_neg hnot]

/-! ## Memory responses (R101 to R105) -/

/-- Each of the three rows offers its response (log 7). -/
theorem exec_memoryResponse {row : MemResponse → Instr}
    (hrow : row ∈ [Instr.responseRelay, Instr.orphanReturn, Instr.unknownResponse]) (m : MemResponse) {s : State}
    (hrun : s.phase = .running) : exec (row m) s = .next (offerResponse m s) := by
  simp only [List.mem_cons, List.not_mem_nil, or_false] at hrow
  rcases hrow with rfl | rfl | rfl <;> exact exec_running hrun rfl

/-- While a response is being relayed, the ones behind it wait (R17). -/
theorem offerResponse_behindRelay {m : MemResponse} {s : State} {x : UpResponse} (hx : s.upResponse = some x)
    (hsource : x.source = .memorySide) : offerResponse m s = s := by
  refine offerResponse_relaying ?_
  simp [relaying, hx, hsource]

/-- No response is being relayed while the local side, or nothing, is on offer upstream (R17). -/
theorem relaying_of_local {s : State} (h : ∀ x, s.upResponse = some x → x.source = .localSide) : relaying s = false := by
  unfold relaying
  cases hx : s.upResponse with
  | none => rfl
  | some x => simp [h x hx]

/-- An entry that leaves LIVE, with its lane's count written out (R44). -/
theorem leaveLive_eq (t : DownTag) (f : Flight) (e : TagEntry) (s : State) :
    leaveLive t f e s = bringOn { s with
      tags := s.tags.set t e
      lanes := match f.lane with
        | none => s.lanes
        | some l => s.lanes.set l { s.lanes[l] with liveCount := s.lanes[l].liveCount - 1 } } := by
  unfold leaveLive liveFalls
  cases f.lane <;> rfl

/-- The judgement of the response at the head, by the state of its tag (R101). -/
theorem judgeResponse_live {h : MemResponse} {f : Flight} {s : State} (ht : s.tags[h.tag] = .live f) :
    judgeResponse h s = if memoryGranted s then relay h f s else s := by
  simp only [judgeResponse, ht]

theorem judgeResponse_orphaned {h : MemResponse} {f : Flight} {s : State} (ht : s.tags[h.tag] = .orphaned f) :
    judgeResponse h s = returnOrphan h f s := by
  simp only [judgeResponse, ht]

theorem judgeResponse_free {h : MemResponse} {s : State} (ht : s.tags[h.tag] = .free) :
    judgeResponse h s = discardUnknown h s := by
  simp only [judgeResponse, ht]

/-- The memory side's grant (R18). -/
theorem memoryGranted_iff (s : State) :
    memoryGranted s = true ↔ s.upResponse = none ∧ (s.localQueue = [] ∨ s.turn = .memorySide) := by
  simp [memoryGranted]

/-- A response that is not granted waits at the head. -/
theorem judgeResponse_waits {h : MemResponse} {f : Flight} {s : State} (ht : s.tags[h.tag] = .live f)
    (hwait : ¬ (s.upResponse = none ∧ (s.localQueue = [] ∨ s.turn = .memorySide))) : judgeResponse h s = s := by
  rw [judgeResponse_live ht, if_neg (mt (memoryGranted_iff s).mp hwait)]

/-- Settles O39: the head's LIVE tag is relayed at the grant, waits without it, and is not looked at behind a relay. -/
theorem responseRelayed : Obligations.ResponseRelayed := by
  unfold Obligations.ResponseRelayed
  intro row hrow m s hrun
  simp only [exec_memoryResponse hrow m hrun]
  refine ⟨fun f hlive => ⟨fun hup hturn => ?_, fun x hx hsource => ?_, fun hup hq hturn => ?_⟩,
    fun x hx hsource => congrArg _ (offerResponse_behindRelay hx hsource)⟩
  · rw [offerResponse_head (relaying_of_none hup)]
    have hjudged := judgeResponse_live (s := atHead (s.downResponse.getD m) s) hlive
    rw [if_pos ((memoryGranted_iff (atHead (s.downResponse.getD m) s)).mpr ⟨hup, hturn⟩), relay, leaveLive_eq] at hjudged
    exact congrArg _ hjudged
  · have hlocal : relaying s = false := relaying_of_local fun y hy => by
      obtain rfl : x = y := Option.some.inj (hx.symm.trans hy)
      exact hsource
    rw [offerResponse_head hlocal]
    exact congrArg _ (judgeResponse_waits hlive fun hgrant => by rw [hx] at hgrant; cases hgrant.1)
  · rw [offerResponse_head (relaying_of_none hup)]
    refine congrArg _ (judgeResponse_waits hlive fun hgrant => ?_)
    rcases hgrant.2 with hempty | hside
    · exact hq hempty
    · rw [hturn] at hside; cases hside

/-- Settles O40: the head's ORPHANED tag frees and is recorded, its FREE tag is counted, and neither behind a relay. -/
theorem lateAndUnknownResponsesDiscarded : Obligations.LateAndUnknownResponsesDiscarded := by
  unfold Obligations.LateAndUnknownResponsesDiscarded
  intro row hrow m s hrun
  simp only [exec_memoryResponse hrow m hrun]
  refine ⟨fun hlocal => ⟨fun f horphan => ?_, fun hfree => ?_⟩,
    fun x hx hsource => congrArg _ (offerResponse_behindRelay hx hsource)⟩
  · rw [offerResponse_head (relaying_of_local hlocal)]
    exact congrArg _ (judgeResponse_orphaned horphan)
  · rw [offerResponse_head (relaying_of_local hlocal)]
    exact congrArg _ (judgeResponse_free hfree)

end Sys2Proof.Machine
end

section
/-! The Event Unit and the Fault Unit (R134, R137, R141, R143), the completions (R58, R74, R120, R155, R160) and the tick
(R59, R60, R62, R90, R107). -/

namespace Sys2Proof.Machine

/-! ## Raises and faults -/

/-- A set after a member has joined, member by member (R134). -/
theorem getLsbD_or_twoPow {n : Nat} (b : BitVec n) (l k : Fin n) :
    (b ||| BitVec.twoPow n l).getLsbD k = (b.getLsbD k || decide (k = l)) := by
  by_cases hk : k = l
  · subst hk; simp
  · have hne : (k : Nat) ≠ l := fun h => hk (Fin.ext h)
    simp [hk, hne]

/-- A raised flag, with its raise count as a number (R134). -/
theorem raised_eq (e : EventFlag) :
    e.raised = { set := true, raises := BitVec.ofNat 8 (e.raises.toNat + 1), enabled := e.enabled } := by
  have hcount : e.raises + 1 = BitVec.ofNat 8 (e.raises.toNat + 1) := by
    apply BitVec.eq_of_toNat_eq
    simp
  rw [← hcount]
  rfl

/-- Settles O42: a raise of a flag, and of one with each kind of member. -/
theorem raiseSetsAndCounts : Obligations.RaiseSetsAndCounts := by
  unfold Obligations.RaiseSetsAndCounts
  refine ⟨fun f e i => ⟨?_, raise_sets f e⟩, fun f s => rfl, fun l s => ?_, fun l s => ?_, fun g s => ?_⟩
  · rw [raise_flags, raised_eq]
  · exact ⟨getLsbD_or_twoPow s.events.watermarkLanes l, rfl, rfl, rfl, rfl⟩
  · exact ⟨getLsbD_or_twoPow s.events.exhaustedLanes l, rfl, rfl, rfl, rfl⟩
  · exact ⟨getLsbD_or_twoPow s.events.commitGens g, rfl, rfl, rfl, rfl⟩

/-- The fault counters after a count (R141). -/
theorem counted_counts (k : FaultKind) (d : FaultDetails) (now : Time) (f : Faults) (i : Fin 8) :
    (f.counted k d now).counts[i] = if i = k.code then min 65535 (f.counts[i] + 1) else f.counts[i] := by
  by_cases h : i = k.code
  · subst h
    simp [Faults.counted, satAdd, Config.top16]
  · have hne : (k.code : Nat) ≠ i := fun hh => h (Fin.ext hh.symm)
    simp [Faults.counted, h, hne]

/-- ALERT is asserted exactly while a set flag has its mask enabled (R137). -/
theorem alert_iff (s : State) :
    alert s = true ↔ ∃ i : Fin 13, (s.events.flags[i]).set = true ∧ (s.events.flags[i]).enabled = true := by
  rw [alert, List.any_eq_true]
  constructor
  · rintro ⟨x, hx, h⟩
    obtain ⟨i, hi, rfl⟩ := List.mem_iff_getElem.mp hx
    exact ⟨⟨i, by simpa using hi⟩, by simpa using h⟩
  · rintro ⟨i, h⟩
    exact ⟨s.events.flags[i], by simp, by simpa using h⟩

/-- Settles O43: the counter, the record by whether it is empty, and ALERT. -/
theorem faultCountsAndRecords : Obligations.FaultCountsAndRecords := by
  unfold Obligations.FaultCountsAndRecords
  refine ⟨fun k d s => ⟨fun i => counted_counts k d s.timebase s.faults i, fun hnone => ?_, fun x hx => ?_, rfl, rfl⟩,
    alert_iff⟩
  · show s.faults.record.or _ = _
    rw [hnone]
    rfl
  · show s.faults.record.or _ = _
    rw [hx]
    rfl

/-! ## Completions -/

/-- Nothing is LIVE, as a count and entry by entry. -/
theorem liveTotal_eq_zero (s : State) : liveTotal s = 0 ↔ ∀ t : DownTag, s.tags[t].isLive = false := by
  rw [liveTotal, countTags, List.countP_eq_zero]
  constructor
  · intro h t
    simpa using h s.tags[t] (by simp)
  · intro h e he
    obtain ⟨i, hi, rfl⟩ := List.mem_iff_getElem.mp he
    simpa using h ⟨i, by simpa using hi⟩

/-- With nothing held an entered state brings on an evaluation alone (R82). -/
theorem enter_of_empty {s : State} (h : s.hold = []) (m : ModeState) :
    enter m s = { s with mode := m, evalDue := s.evalDue || s.offered.isSome } := by
  have hscan : (s.scanDue || !s.hold.isEmpty) = s.scanDue := by simp [h]
  unfold enter bringOn bringEval bringScan
  simp only [hscan]

/-- A trigger's restart, as one condition (R120). -/
theorem restarted_trigger_eq (t : Trigger) :
    t.restarted = if t.enabled = true ∧ t.mode ≠ .every then { t with armed := true } else t := by
  cases t with
  | mk enabled mode gen pattern armed => cases mode <;> cases enabled <;> simp [Trigger.restarted]

/-- Settles O45: `judgeDrained_cases` tells the two completions from none. -/
theorem drainedStatesComplete : Obligations.DrainedStatesComplete := by
  unfold Obligations.DrainedStatesComplete
  intro s
  rw [← liveTotal_eq_zero]
  refine ⟨fun hdrained => ?_, fun hemptied => ?_, fun hdrained hemptied => ?_⟩
  · obtain ⟨hm, hhold, hlive⟩ := hdrained
    have hentered := enter_of_empty (s := { s with quiesceTimer := none }) hhold .quiesced
    rw [judgeDrained_of_quiescing hm, completeQuiesce, if_pos ⟨hm, hhold, hlive⟩, hentered]
    rfl
  · obtain ⟨hm, hhold⟩ := hemptied
    have h : judgeDrained s = enter (.operating s.resume) (raise .restartDone (restartPeriods s)) := by
      rw [judgeDrained_of_restarting hm, completeRestart, if_pos ⟨hm, hhold⟩]
    rw [h, enter_of_empty (s := raise .restartDone (restartPeriods s)) hhold]
    refine ⟨rfl, rfl, fun l => ?_, fun g => ?_, fun t => ?_, rfl, rfl⟩
    · simp [restartPeriods, Lane.restarted]
    · simp [restartPeriods, Generator.restarted]
    · simp [restartPeriods, restarted_trigger_eq]
  · rcases judgeDrained_cases s with ⟨hd, -⟩ | ⟨he, -⟩ | ⟨-, -, h⟩
    · exact absurd hd hdrained
    · exact absurd he hemptied
    · exact h

/-! ## The tick -/

/-- A held entry's countdown waits for its warning or its expiry (R90; log 5). -/
theorem heldDue_iff (e : HoldEntry) : (e.agingDue || e.expiryDue) = true ↔ e.forced = false ∧ e.refusal = none ∧
    (e.remaining = 0 ∨ (e.aged = false ∧ e.holdLimit / 2 ≠ 0 ∧ e.remaining = e.holdLimit / 2)) := by
  simp only [HoldEntry.agingDue, HoldEntry.expiryDue, HoldEntry.waits, Bool.or_eq_true, Bool.and_eq_true,
    Bool.not_eq_true', Option.isNone_iff_eq_none, decide_eq_true_eq, beq_iff_eq]
  tauto

/-- A response deadline is due (R107; log 5). -/
theorem deadlineDue_iff (e : TagEntry) :
    e.deadlineDue = true ↔ ∃ f, e = .live f ∧ f.timeoutPending = false ∧ f.remaining = some 0 := by
  cases e <;> simp [TagEntry.deadlineDue]

/-- Some entry of a table satisfies a test. -/
theorem vector_any_iff {α : Type} {n : Nat} (v : Vector α n) (p : α → Bool) :
    v.toList.any p = true ↔ ∃ i : Fin n, p v[i] = true := by
  rw [List.any_eq_true]
  constructor
  · rintro ⟨x, hx, h⟩
    obtain ⟨i, hi, rfl⟩ := List.mem_iff_getElem.mp hx
    exact ⟨⟨i, by simpa using hi⟩, by simpa using h⟩
  · rintro ⟨i, h⟩
    exact ⟨v[i], by simp, h⟩

/-- The tick waits for an event of the last one (log 5). -/
theorem tickDue_iff (s : State) : tickDue s = true ↔
    (∃ g : Gen, s.gens[g].expiring = true) ∨
    (∃ e ∈ s.hold, e.forced = false ∧ e.refusal = none ∧
      (e.remaining = 0 ∨ (e.aged = false ∧ e.holdLimit / 2 ≠ 0 ∧ e.remaining = e.holdLimit / 2))) ∨
    (∃ (t : DownTag) (f : Flight), s.tags[t] = .live f ∧ f.timeoutPending = false ∧ f.remaining = some 0) ∨
    (s.mode = .quiescing ∧ s.quiesceTimer = some 0) := by
  rw [tickDue, Bool.or_eq_true, Bool.or_eq_true, Bool.or_eq_true, vector_any_iff, vector_any_iff, List.any_eq_true,
    or_assoc, or_assoc]
  simp only [deadlineDue_iff, quiesceDue, Bool.and_eq_true, beq_iff_eq, heldDue_iff]

/-- A held entry after a tick, with the condition its countdown runs by (R90). -/
theorem ticked_held_eq (e : HoldEntry) : e.ticked = { e with
    remaining := if e.forced = true ∨ e.refusal ≠ none then e.remaining else e.remaining - 1
    waited := min 4294967295 (e.waited + 1) } := by
  have hwaits : e.waits = true ↔ ¬ (e.forced = true ∨ e.refusal ≠ none) := by
    simp [HoldEntry.waits]
  unfold HoldEntry.ticked satAdd Config.top32
  by_cases h : e.forced = true ∨ e.refusal ≠ none
  · rw [if_pos h, if_neg (fun hw => hwaits.mp hw h)]
  · rw [if_neg h, if_pos (hwaits.mpr h)]

/-- Settles O30: `tickDue_iff` for the wait, and each countdown's own tick. -/
theorem tickAdvancesEveryCountdown : Obligations.TickAdvancesEveryCountdown := by
  unfold Obligations.TickAdvancesEveryCountdown
  intro s hrun
  have hexec : exec .timebaseTick s = .next (tickIfClear s) := exec_running hrun rfl
  refine ⟨tickDue_iff s, fun hclear => ⟨tick s, ?_, rfl, fun g => ?_, ?_, fun t f hlive => ?_, fun t ht => ?_, rfl, rfl⟩,
    fun hdue => ?_⟩
  · rw [hexec, tickIfClear, hclear]
    rfl
  · simp only [tick, mapVec_get_fin]
    rfl
  · exact List.map_congr_left fun e _ => ticked_held_eq e
  · have htick : (tick s).tags[t] = s.tags[t].ticked := by simp [tick]
    rw [htick, hlive]
    simp only [TagEntry.ticked]
    split <;> rfl
  · have htick : (tick s).tags[t] = s.tags[t].ticked := by simp [tick]
    rw [htick]
    cases he : s.tags[t] with
    | free | orphaned f => rfl
    | live f => rw [he] at ht; cases ht
  · rw [hexec, tickIfClear, hdue]
    rfl

end Sys2Proof.Machine
end

section
/-! A taken request's whole effect (R13): forwarded, held, refused. What the triggers and the log see of it depends on
the items of `SameView` alone, so it can be read off the state before the taking. -/

namespace Sys2Proof.Machine

/-! ## What records depend on -/

/-- The items that the triggers' evaluation and a record's arrival read agree. -/
structure SameView (s t : State) : Prop where
  triggers : s.triggers = t.triggers
  log : s.log = t.log
  events : s.events = t.events
  limits : s.limits = t.limits
  timebase : s.timebase = t.timebase

namespace SameView

variable {s t : State}

theorem logRecord (h : SameView s t) (b : RecordBody) : SameView (logRecord b s) (logRecord b t) := by
  obtain ⟨hlog, hevents⟩ := logRecord_log_events_congr b h.log h.events h.limits h.timebase
  exact ⟨by simpa using h.triggers, hlog, hevents, by simpa using h.limits, by simpa using h.timebase⟩

theorem evaluateTriggers (h : SameView s t) (p : Passage) (shown : Shown) :
    SameView (evaluateTriggers p shown s) (evaluateTriggers p shown t) := by
  have hdisarmed : SameView
      { s with triggers := mapVec (fun _ x => if x.fires p then x.matched else x) t.triggers }
      { t with triggers := mapVec (fun _ x => if x.fires p then x.matched else x) t.triggers } :=
    ⟨rfl, h.log, h.events, h.limits, h.timebase⟩
  unfold Machine.evaluateTriggers
  rw [h.triggers]
  split
  · exact hdisarmed.logRecord _
  · exact h

theorem logScreenMark (h : SameView s t) (j : Judged) (shown : Shown) :
    SameView (logScreenMark j shown s) (logScreenMark j shown t) := by
  unfold Machine.logScreenMark
  split
  · exact h.logRecord _
  · exact h

theorem logRefusal (h : SameView s t) (b : Bool) (r : RecordRequest) (lane : Option LaneId) (rule : Option RuleId)
    (st : Status) : SameView (logRefusal b r lane rule st s) (logRefusal b r lane rule st t) := by
  unfold Machine.logRefusal
  split
  · exact h.logRecord _
  · exact h

theorem noteOverflow (h : SameView s t) (j : Judged) (st : Status) :
    SameView (noteOverflow j st s) (noteOverflow j st t) := by
  unfold Machine.noteOverflow
  split
  · exact ⟨h.triggers, h.log, congrArg (Events.raise .fault) h.events, h.limits, h.timebase⟩
  · exact h

end SameView

/-- Taking the record off the channel changes nothing that records depend on. -/
theorem sameView_emptied (s : State) : SameView (emptied s) s := ⟨rfl, rfl, rfl, rfl, rfl⟩

/-! ## A grant behind a test -/

/-- A lane granted to, after a test has noted it exhausted or not (R44, R47 to R51). -/
theorem granted_noted (x : Lane) (noted charging : Bool) (cost : Nat) :
    ({ x with exhausted := x.exhausted || noted } : Lane).granted charging cost =
      { (if charging then x.charged cost else x) with
        liveCount := x.liveCount + 1
        watermarkReached := decide (x.watermarkReached = true ∨ (charging = true ∧ x.Reaches cost))
        exhausted := decide (x.exhausted = true ∨ noted = true ∨ (charging = true ∧ ¬ x.Credit)) } := by
  cases charging with
  | false => simp [Lane.granted]
  | true =>
    have hreached := x.afterCharge_reached cost
    have hexhausted : (x.exhausted || noted || !x.hasCredit) =
        decide (x.exhausted = true ∨ noted = true ∨ ¬ x.Credit) := by
      rw [Bool.eq_iff_iff, decide_eq_true_iff, ← Lane.hasCredit_iff]
      simp [or_assoc]
    simp only [Lane.granted, if_true, Lane.afterCharge, true_and, ← hreached, ← hexhausted]
    rfl

/-- The Event Unit after a charge on a lane that a test has noted exhausted or not (R50, R51). -/
theorem afterCharge_noted (l : LaneId) (cost : Nat) (x : Lane) (noted : Bool) (e : Events) :
    e.afterCharge l cost { x with exhausted := x.exhausted || noted } =
      let w := if ¬ x.Credit ∧ x.exhausted = false ∧ noted = false then e.withExhausted l else e
      if x.Reaches cost then w.withWatermark l else w := by
  have hshort : (x.hasCredit || (x.exhausted || noted)) = true ↔
      ¬ (¬ x.Credit ∧ x.exhausted = false ∧ noted = false) := by
    rw [← Lane.hasCredit_iff]
    cases x.hasCredit <;> cases x.exhausted <;> simp
  have htested : (if (x.hasCredit || (x.exhausted || noted)) = true then e else e.withExhausted l) =
      if ¬ x.Credit ∧ x.exhausted = false ∧ noted = false then e.withExhausted l else e := by
    by_cases h : ¬ x.Credit ∧ x.exhausted = false ∧ noted = false
    · rw [if_pos h, if_neg (fun hs => hshort.mp hs h)]
    · rw [if_neg h, if_pos (hshort.mpr h)]
  have hreached := x.reaches_iff cost
  dsimp only
  rw [← htested]
  exact if_congr hreached rfl rfl

/-- A grant on the lane carried, behind a test that has noted it exhausted or not. -/
theorem grant_noted {p : Passage} {l : LaneId} {v : State} {x : Lane} {noted : Bool} (t : DownTag)
    (hl : p.lane = some l) (hx : v.lanes[l] = { x with exhausted := x.exhausted || noted }) :
    (grant p t v).lanes[l] =
        { (if modeInForce v = .bypass then x else x.charged p.length) with
          liveCount := x.liveCount + 1
          watermarkReached := decide (x.watermarkReached = true ∨ (modeInForce v ≠ .bypass ∧ x.Reaches p.length))
          exhausted := decide (x.exhausted = true ∨ noted = true ∨ (modeInForce v ≠ .bypass ∧ ¬ x.Credit)) } ∧
      (grant p t v).events =
        let w := if (modeInForce v ≠ .bypass ∧ ¬ x.Credit) ∧ x.exhausted = false ∧ noted = false then
          v.events.withExhausted l else v.events
        if modeInForce v ≠ .bypass ∧ x.Reaches p.length then w.withWatermark l else w := by
  constructor
  · rw [grant_lane, if_pos hl, hx, granted_noted]
    by_cases hm : modeInForce v = .bypass <;> simp [hm]
  · rw [grant_events, chargeFor_events, hl]
    dsimp only
    by_cases hm : modeInForce v = .bypass
    · simp [hm]
    · rw [if_neg hm, charge_events, hx, afterCharge_noted]
      simp [hm]

/-! ## The three dispositions -/

/-- What stands behind the taking of a request, in the terms of its lane's test (R10, R51). -/
theorem short_iff {r : Request} {s : State} {j : Judged} (hj : j.Of r s) {l : LaneId} (hl : j.req.lane = some l) :
    j.short = true ↔ s.mode = .operating .govern ∧ ¬ s.lanes[l].Credit := by
  obtain ⟨-, -, -, m, hm, hshort⟩ := hj.facts
  rw [hshort l hl, hm, ModeState.operating.injEq]

/-- While the governor runs in an operating mode that mode is in force. -/
theorem modeInForce_operating {s : State} {m : Mode} (h : s.mode = .operating m) : modeInForce s = m := by
  simp only [modeInForce, h]

/-- A forward is charged without credit (R48, R49, R119). -/
theorem isMark_iff {s : State} {m : Mode} (hm : s.mode = .operating m) (p : Passage) :
    isMark p s = true ↔ ∃ l, p.lane = some l ∧ s.mode ≠ .operating .bypass ∧ ¬ s.lanes[l].Credit := by
  unfold isMark
  cases hl : p.lane with
  | none => simp
  | some l => simp [modeInForce_operating hm, hm, ← Lane.hasCredit_iff, -Fin.getElem_fin]

/-- Behind each disposition of checks 4 to 9 stands what those checks hand on. -/
theorem judged_of_forward {r : Request} {s : State} {j : Judged} {t : DownTag} (h : evaluate r s = .forward j t) :
    j.Of r s := by
  have hdecided := evaluate_decided r s
  rw [h] at hdecided
  cases hdecided with
  | forward _ _ hj => exact hj

theorem judged_of_hold {r : Request} {s : State} {j : Judged} {k : Cause} (h : evaluate r s = .hold j k) : j.Of r s := by
  have hdecided := evaluate_decided r s
  rw [h] at hdecided
  cases hdecided with
  | hold _ _ hj => exact hj

theorem judged_of_refuse {r : Request} {s : State} {j : Judged} {st : Status} (h : evaluate r s = .refuse j st) :
    j.Of r s := by
  have hdecided := evaluate_decided r s
  rw [h] at hdecided
  cases hdecided with
  | refuse _ _ hj => exact hj

/-- What a raise of WATERMARK or EXHAUSTED leaves in the Event Unit. -/
theorem raiseWatermark_events (l : LaneId) (s : State) : (raiseWatermark l s).events = s.events.withWatermark l := rfl

theorem raiseExhausted_events (l : LaneId) (s : State) : (raiseExhausted l s).events = s.events.withExhausted l := rfl

/-- EXHAUSTED noted by a test and then by a charge is noted once, when the charge finds no credit whenever the test
did (R51). -/
theorem exhausted_noted_once {unpaid : Prop} [Decidable unpaid] {short : Bool} (h : short = true → unpaid)
    (exhausted : Bool) (e : Events) (l : LaneId) :
    (if unpaid ∧ exhausted = false ∧ short = false then
        (if short && !exhausted then e.withExhausted l else e).withExhausted l
      else if short && !exhausted then e.withExhausted l else e) =
      if unpaid ∧ exhausted = false then e.withExhausted l else e := by
  cases short with
  | false => simp
  | true => cases exhausted <;> simp [h rfl]

/-- The state a forward is granted in: its records are written and its test is noted (R13, R51, R119, R126). -/
def forwardNoted (j : Judged) (s : State) : State :=
  noteShort j.req.lane j.short
    (logScreenMark j .forwarded (evaluateTriggers j.req (shownForward j (emptied s)) (emptied s)))

/-- A forward is the grant in that state. -/
theorem takeForward_eq (j : Judged) (t : DownTag) (s : State) :
    takeForward j t (emptied s) = grant j.req t (forwardNoted j s) := rfl

/-- What that state keeps. -/
theorem forwardNoted_fields (j : Judged) (s : State) :
    (forwardNoted j s).mode = s.mode ∧ (forwardNoted j s).resume = s.resume ∧ (forwardNoted j s).tags = s.tags ∧
      (forwardNoted j s).timebase = s.timebase ∧ (forwardNoted j s).limits = s.limits := by
  simp [forwardNoted, emptied]

/-- Its lanes are as before, but for the test noted. -/
theorem forwardNoted_lane (j : Judged) (s : State) (k : LaneId) : (forwardNoted j s).lanes[k] =
    { s.lanes[k] with exhausted := s.lanes[k].exhausted || (j.short && decide (j.req.lane = some k)) } := by
  simp only [forwardNoted, noteShort_lane, logScreenMark_fields, evaluateTriggers_fields, emptied]

/-- Its Event Unit: what the records raised, and EXHAUSTED when the test found no credit for the first time. -/
theorem forwardNoted_events (j : Judged) (s : State) {e : Events}
    (he : (logScreenMark j .forwarded (evaluateTriggers j.req (shownForward j (emptied s)) (emptied s))).events = e) :
    (forwardNoted j s).events = match j.req.lane with
      | none => e
      | some l => if j.short && !s.lanes[l].exhausted then e.withExhausted l else e := by
  rw [forwardNoted, noteShort_events, he]
  cases j.req.lane with
  | none => rfl
  | some l => simp only [logScreenMark_fields, evaluateTriggers_fields, emptied]

/-- Settles O22: the state before the grant carries the records, and the grant is `grant_noted`. -/
theorem requestForwarded : Obligations.RequestForwarded := by
  unfold Obligations.RequestForwarded
  intro o r s j t heval hforward unpaid reached shown triggered recorded
  have hj := judged_of_forward hforward
  obtain ⟨-, -, -, m, hm, -⟩ := hj.facts
  have hshown : shownForward j (emptied s) = shown := by
    have hmark := isMark_iff hm j.req
    unfold shownForward
    exact if_congr Iff.rfl rfl (if_congr hmark rfl rfl)
  have hview : SameView (logScreenMark j .forwarded (evaluateTriggers j.req (shownForward j (emptied s)) (emptied s)))
      recorded := by
    rw [hshown]
    exact ((sameView_emptied s).evaluateTriggers _ _).logScreenMark _ _
  have htriggers : recorded.triggers = triggered.triggers := by
    show (logScreenMark j .forwarded triggered).triggers = _
    simp only [logScreenMark_fields]
  have hevents := forwardNoted_events j s hview.events
  obtain ⟨hmode, hresume, htags, htime, hlimits⟩ := forwardNoted_fields j s
  have hforce : modeInForce (forwardNoted j s) = .bypass ↔ s.mode = .operating .bypass := by
    rw [modeInForce_operating (hmode.trans hm), hm, ModeState.operating.injEq]
  refine ⟨grant j.req t (forwardNoted j s), ?_, ?_, ?_, (grant_writes _ _ _).1, ?_, fun l hl => ?_, fun l hl => ?_,
    fun hl => ?_, ?_, ?_, ?_⟩
  · rw [exec_requestTaken heval, hforward]; rfl
  · simp [forwardNoted, emptied]
  · simp [forwardNoted, emptied]
  · rw [(grant_writes _ _ _).2, htags, flightOf, htime, hlimits]
  · rw [grant_lane, if_neg hl, forwardNoted_lane]
    simp [hl]
  · have hx : (forwardNoted j s).lanes[l] = { s.lanes[l] with exhausted := s.lanes[l].exhausted || j.short } := by
      rw [forwardNoted_lane]
      simp [hl]
    obtain ⟨hlane, hraised⟩ := grant_noted t hl hx
    have hshort := short_iff hj hl
    have hunpaid : j.short = true → unpaid l := fun h => ⟨by rw [(hshort.mp h).1]; simp, (hshort.mp h).2⟩
    have hmarked : (modeInForce (forwardNoted j s) ≠ .bypass ∧ ¬ s.lanes[l].Credit) ↔ unpaid l := by
      rw [ne_eq, hforce]
    have hreaches : (modeInForce (forwardNoted j s) ≠ .bypass ∧ s.lanes[l].Reaches j.req.length) ↔ reached l := by
      rw [ne_eq, hforce]
    have hexhausted : (j.short = true ∨ unpaid l) ↔ unpaid l := or_iff_right_of_imp hunpaid
    simp only [hl] at hevents
    refine ⟨?_, ?_⟩
    · rw [hlane]
      simp only [hmarked, hreaches, hexhausted, hforce]
    · have hnoted := exhausted_noted_once hunpaid s.lanes[l].exhausted recorded.events l
      rw [← hevents] at hnoted
      rw [hraised]
      simp only [apply_ite State.events, raiseWatermark_events, raiseExhausted_events, hmarked, hreaches, hnoted]
  · rw [grant_events, chargeFor_events, hl]
    rw [hl] at hevents
    exact hevents
  · rw [← htriggers, ← hview.triggers]
    simp [forwardNoted]
  · rw [← hview.log]
    simp [forwardNoted]
  · exact State.ext_fields (by simp [forwardNoted, emptied])

end Sys2Proof.Machine
end

section
/-! A request taken as a hold or as a refusal (R13, R51, R52, R77, R82, R95, R124 to R126). -/

namespace Sys2Proof.Machine

/-- EXHAUSTED of a test, in the Event Unit, with the test as a proposition (R51). -/
theorem noteShort_events_eq {lane : Option LaneId} {l : LaneId} {short : Bool} {tested : Prop} [Decidable tested]
    {x y : State} (hl : lane = some l) (hshort : short = true ↔ tested) (hevents : x.events = y.events)
    (hlane : x.lanes[l].exhausted = y.lanes[l].exhausted) :
    (noteShort lane short x).events =
      (if tested ∧ y.lanes[l].exhausted = false then raiseExhausted l y else y).events := by
  have hcond : (short && !x.lanes[l].exhausted) = true ↔ tested ∧ y.lanes[l].exhausted = false := by
    rw [Bool.and_eq_true, hshort, hlane, Bool.not_eq_true']
  rw [noteShort_events, hl, apply_ite State.events, raiseExhausted_events, hevents]
  exact if_congr hcond rfl rfl

/-- Without a lane no test is noted. -/
theorem noteShort_none {lane : Option LaneId} (hl : lane = none) (short : Bool) (s : State) :
    noteShort lane short s = s := by
  rw [hl]
  rfl

/-- A lane's flag after a test, with the test as a proposition. -/
theorem exhausted_eq {short : Bool} {tested : Prop} [Decidable tested] (hshort : short = true ↔ tested) (b : Bool) :
    (b || short) = decide (b = true ∨ tested) := by
  rw [Bool.eq_iff_iff, decide_eq_true_iff, Bool.or_eq_true, hshort]

/-- The records of a hold leave what it adds to. -/
theorem screenMarked_kept (j : Judged) (shown shown' : Shown) (s : State) :
    (logScreenMark j shown (evaluateTriggers j.req shown' (emptied s))).lanes = s.lanes := by
  simp [emptied]

/-- Settles O23: the records are those of `s`, and the lane's item is `noteShort_lane` and `countHold_lane`. -/
theorem requestHeld : Obligations.RequestHeld := by
  unfold Obligations.RequestHeld
  intro o r s j c heval hheld short triggered recorded
  have hj := judged_of_hold hheld
  have hview : SameView (logScreenMark j (.held c) (evaluateTriggers j.req (.held c) (emptied s))) recorded :=
    ((sameView_emptied s).evaluateTriggers _ _).logScreenMark _ _
  have htriggers : recorded.triggers = triggered.triggers := by
    show (logScreenMark j (.held c) triggered).triggers = _
    simp only [logScreenMark_fields]
  have hlanes : recorded.lanes = s.lanes := by
    show (logScreenMark j (.held c) (evaluateTriggers j.req (.held c) s)).lanes = _
    simp only [logScreenMark_fields, evaluateTriggers_fields]
  have hlane : ∀ l : LaneId, (takeHold j c (emptied s)).lanes[l] = if j.req.lane = some l then
      { s.lanes[l] with
        exhausted := s.lanes[l].exhausted || j.short
        totalHolds := satAdd Config.top32 s.lanes[l].totalHolds 1 } else s.lanes[l] := by
    intro l
    simp only [takeHold, bringScan_fields, countHold_lane, noteShort_lane, screenMarked_kept]
    by_cases hl : j.req.lane = some l <;> simp [hl]
  have hnoted : (takeHold j c (emptied s)).events = (noteShort j.req.lane j.short
      (logScreenMark j (.held c) (evaluateTriggers j.req (.held c) (emptied s)))).events := by simp [takeHold]
  refine ⟨takeHold j c (emptied s), ?_, ?_, ?_, ?_, ?_, fun l hl => ?_, fun l hl => ⟨?_, ?_⟩, fun hl => ?_, ?_, ?_, ?_⟩
  · rw [exec_requestTaken heval, hheld]; rfl
  · simp [takeHold, emptied]
  · simp [takeHold, emptied]
  · simp [takeHold, bringScan]
  · simp [takeHold, emptied, heldEntry]
  · rw [hlane, if_neg hl]
  · rw [hlane, if_pos hl, exhausted_eq (short_iff hj hl)]
    rfl
  · have hevents := noteShort_events_eq hl (short_iff hj hl) hview.events (by rw [hlanes, screenMarked_kept])
    rw [hlanes] at hevents
    exact hnoted.trans hevents
  · exact hnoted.trans ((congrArg State.events (noteShort_none hl _ _)).trans hview.events)
  · rw [← htriggers, ← hview.triggers]
    simp [takeHold]
  · rw [← hview.log]
    simp [takeHold]
  · exact State.ext_fields (by simp [takeHold, emptied])

/-- A refusal's state before its lane and its response: the fault of an overflow, then the records (R95, R124 to
R126). -/
def refusalRecorded (j : Judged) (st : Status) (s : State) : State :=
  logRefusal (refusalLogged j st s) j.req.record j.req.lane j.req.rule st
    (logScreenMark { j with screenMark := screenRefused j st } (.refused st)
      (evaluateTriggers j.req (.refused st) (noteOverflow j st s)))

/-- It leaves the lanes and the response queue. -/
theorem refusalRecorded_kept (j : Judged) (st : Status) (s : State) :
    (refusalRecorded j st s).lanes = s.lanes ∧ (refusalRecorded j st s).localQueue = s.localQueue := by
  simp [refusalRecorded]

/-- It reads only what records depend on. -/
theorem sameView_refusalRecorded (j : Judged) (st : Status) (s : State) :
    SameView (refusalRecorded j st (emptied s)) (refusalRecorded j st s) :=
  ((((sameView_emptied s).noteOverflow j st).evaluateTriggers _ _).logScreenMark _ _).logRefusal _ _ _ _ _

/-- Settles O24: the records are those of `refusalRecorded`, and the lane's item is `noteShort_lane` and
`countRefusal_lane`. -/
theorem requestRefused : Obligations.RequestRefused := by
  unfold Obligations.RequestRefused
  intro o r s j st heval hrefused short counted triggered marked recorded
  have hj := judged_of_refuse hrefused
  have hmarked : logScreenMark { j with screenMark := screenRefused j st } (.refused st) triggered = marked := by
    refine if_congr ?_ rfl rfl
    simp [screenRefused]
  have hrecorded : refusalRecorded j st s = recorded := by
    show logRefusal (refusalLogged j st s) j.req.record j.req.lane j.req.rule st
      (logScreenMark { j with screenMark := screenRefused j st } (.refused st) triggered) = recorded
    rw [hmarked]
    refine if_congr ?_ rfl rfl
    simp [refusalLogged]
  have hview := sameView_refusalRecorded j st s
  obtain ⟨hlanes, hqueue⟩ := refusalRecorded_kept j st (emptied s)
  have hlane : ∀ l : LaneId, (takeRefuse j st (emptied s)).lanes[l] = if j.req.lane = some l then
      { s.lanes[l] with
        exhausted := s.lanes[l].exhausted || j.short
        totalRefusals := satAdd Config.top32 s.lanes[l].totalRefusals 1 } else s.lanes[l] := by
    intro l
    simp only [takeRefuse, queueLocal_fields, countRefusal_lane, noteShort_lane]
    rw [← refusalRecorded, hlanes]
    by_cases hl : j.req.lane = some l <;> simp [hl, emptied]
  have hnoted : (takeRefuse j st (emptied s)).events =
      (noteShort j.req.lane j.short (refusalRecorded j st (emptied s))).events := by
    simp [takeRefuse, refusalRecorded]
  refine ⟨takeRefuse j st (emptied s), ?_, ?_, ?_, ?_, fun l hl => ?_, fun l hl => ⟨?_, ?_⟩, fun hl => ?_, ?_, ?_, ?_,
    ?_⟩
  · rw [exec_requestTaken heval, hrefused]; rfl
  · simp [takeRefuse, emptied]
  · simp [takeRefuse, emptied]
  · simp [takeRefuse, queueLocal, emptied]
  · rw [hlane, if_neg hl]
  · rw [hlane, if_pos hl, exhausted_eq (short_iff hj hl)]
    rfl
  · have hevents := noteShort_events_eq hl (short_iff hj hl) hview.events
      (by rw [hlanes, (refusalRecorded_kept j st s).1]; rfl)
    rw [(refusalRecorded_kept j st s).1, hrecorded] at hevents
    exact hnoted.trans hevents
  · rw [← hrecorded]
    exact hnoted.trans ((congrArg State.events (noteShort_none hl _ _)).trans hview.events)
  · have hfaults : (takeRefuse j st (emptied s)).faults = (noteOverflow j st (emptied s)).faults := by
      simp [takeRefuse]
    rw [hfaults]
    show _ = (noteOverflow j st s).faults
    unfold noteOverflow
    by_cases hst : st = .refusedFull
    · rw [if_pos hst, if_pos hst]
      rfl
    · rw [if_neg hst, if_neg hst]
      rfl
  · have htriggers : (refusalRecorded j st s).triggers = triggered.triggers := by
      show _ = (evaluateTriggers j.req (.refused st) (noteOverflow j st s)).triggers
      simp only [refusalRecorded, logRefusal_fields, logScreenMark_fields]
    rw [← htriggers, ← hview.triggers]
    simp [takeRefuse, refusalRecorded]
  · rw [← hrecorded, ← hview.log]
    simp [takeRefuse, refusalRecorded]
  · exact State.ext_fields (by simp [takeRefuse, emptied])

end Sys2Proof.Machine
end

section
/-! The mode requests (section 9.3): what a MODE write of each request code answers (R151 to R161). -/

namespace Sys2Proof.Machine

/-! ## Operations that share a class -/

/-- What it takes for a frame to spell no other row's operation (log 11). -/
theorem spellsOther_eq_false_iff {listed : List Byte} {own : Byte} {f : Frame} :
    spellsOther listed own f = false ↔ ∀ b, f.payload.head? = some b → b ∈ listed → b = own := by
  unfold spellsOther
  cases f.payload with
  | nil => simp
  | cons b bs => by_cases hb : b ∈ listed <;> simp [hb]

/-- A frame of a shared class that spells no other row's operation is taken (log 11). -/
theorem takeOperation_own {c : ObjectClass} {listed : List Byte} {own : Byte} {f : Frame} {s : State}
    (h : spellsOther listed own f = false) : takeOperation c listed own f s = takeFrame .write c f s := by
  rw [takeOperation, h]
  rfl

/-- A MODE write of one code, the row's own or an unlisted one, is answered by its request (R151, R168). -/
theorem takeMode_served {f : Frame} {s : State} {code own : Byte} {a : Answer} (h : f.Received .write s)
    (hv : f.Verifies .write .mode) (hi : f.index = 0) (hcode : code ∈ modeCodes → code = own)
    (ha : writeMode code s = a) (hp : f.payload = [code]) :
    takeOperation .mode modeCodes own f s = State.answered f a.status a.payload a.state := by
  have hown : spellsOther modeCodes own f = false := by
    rw [spellsOther_eq_false_iff, hp]
    rintro b ⟨⟩
    exact hcode
  rw [takeOperation_own hown, takeFrame_served h hv rfl (by rw [hi]; rfl) (by rw [hp]; rfl), hp, ← ha]
  rfl

/-! ## What each request answers -/

/-- BYPASS, MONITOR and GOVERN are not admitted while QUIESCING or QUIESCED (section 9.3). -/
theorem requestMode_wrong {s : State} (h : s.mode = .quiescing ∨ s.mode = .quiesced) (m : Mode) :
    requestMode m s = Answer.refuse .wrongMode s := by
  rcases h with h | h <;> simp only [requestMode, h]

/-- BYPASS, MONITOR and GOVERN are BUSY while RESTARTING (R161). -/
theorem requestMode_busy {s : State} (h : s.mode = .restarting) (m : Mode) :
    requestMode m s = Answer.refuse .busy s := by
  simp only [requestMode, h]

/-- QUIESCE is not admitted while QUIESCING or QUIESCED (section 9.3). -/
theorem requestQuiesce_wrong {s : State} (h : s.mode = .quiescing ∨ s.mode = .quiesced) :
    requestQuiesce s = Answer.refuse .wrongMode s := by
  rcases h with h | h <;> simp only [requestQuiesce, h]

/-- QUIESCE is BUSY while RESTARTING (R161). -/
theorem requestQuiesce_busy {s : State} (h : s.mode = .restarting) : requestQuiesce s = Answer.refuse .busy s := by
  simp only [requestQuiesce, h]

/-- RESUME while QUIESCING or QUIESCED (R158). -/
theorem requestResume_ok {s : State} (h : s.mode = .quiescing ∨ s.mode = .quiesced) :
    requestResume s = Answer.ok (resumed s) := by
  rcases h with h | h <;> simp only [requestResume, h]

/-- RESUME is not admitted in an operating mode (section 9.3). -/
theorem requestResume_wrong {s : State} {m : Mode} (h : s.mode = .operating m) :
    requestResume s = Answer.refuse .wrongMode s := by
  simp only [requestResume, h]

/-- RESUME is BUSY while RESTARTING (R161). -/
theorem requestResume_busy {s : State} (h : s.mode = .restarting) : requestResume s = Answer.refuse .busy s := by
  simp only [requestResume, h]

/-- RESTART is not admitted while QUIESCING (section 9.3). -/
theorem requestRestart_wrong {s : State} (h : s.mode = .quiescing) :
    requestRestart s = Answer.refuse .wrongMode s := by
  simp only [requestRestart, h]

/-- RESTART in an operating mode or QUIESCED (R159). -/
theorem requestRestart_ok {s : State} {back : Mode}
    (h : s.mode = .operating back ∨ (s.mode = .quiesced ∧ s.resume = back)) :
    requestRestart s = Answer.ok (restartFrom back s) := by
  rcases h with h | ⟨h, rfl⟩ <;> simp only [requestRestart, h]

/-- RESTART is BUSY while RESTARTING (R161). -/
theorem requestRestart_busy {s : State} (h : s.mode = .restarting) : requestRestart s = Answer.refuse .busy s := by
  simp only [requestRestart, h]

/-- Every request is BUSY while RESTARTING (R161). -/
theorem writeMode_busy {s : State} (h : s.mode = .restarting) {b : Byte} (hb : b ∈ modeCodes) :
    writeMode b s = Answer.refuse .busy s := by
  simp only [modeCodes, List.mem_cons, List.not_mem_nil, or_false] at hb
  rcases hb with rfl | rfl | rfl | rfl | rfl | rfl
  · exact requestMode_busy h .bypass
  · exact requestMode_busy h .monitor
  · exact requestMode_busy h .govern
  · exact requestQuiesce_busy h
  · exact requestResume_busy h
  · exact requestRestart_busy h

/-- A code of 6 or above is none of the six. -/
theorem notMem_modeCodes {b : Byte} (hb : 6 ≤ b.toNat) : b ∉ modeCodes := by
  intro h
  simp only [modeCodes, List.mem_cons, List.not_mem_nil, or_false] at h
  rcases h with rfl | rfl | rfl | rfl | rfl | rfl <;> exact absurd hb (by decide)

/-- An unlisted code is BAD_VALUE in every state (R151). -/
theorem writeMode_unlisted {b : Byte} (hb : b ∉ modeCodes) (s : State) :
    writeMode b s = Answer.refuse .badValue s := by
  simp only [modeCodes, List.mem_cons, List.not_mem_nil, or_false, not_or] at hb
  obtain ⟨h0, h1, h2, h3, h4, h5⟩ := hb
  rw [writeMode, if_neg h0, if_neg h1, if_neg h2, if_neg h3, if_neg h4, if_neg h5]

/-! ## The statements -/

/-- Settles O46: an operating mode admits the three. -/
theorem modeRequestsAccepted : Obligations.ModeRequestsAccepted := by
  unfold Obligations.ModeRequestsAccepted
  intro f s now h hv hi hm after
  have hserved : ∀ (code : Byte) (m : Mode), writeMode code s = requestMode m s → f.payload = [code] →
      takeOperation .mode modeCodes code f s = after m := by
    intro code m hcode hp
    exact takeMode_served h hv hi (fun _ => rfl) (hcode.trans (requestMode_operating hm)) hp
  exact ⟨fun hp => (exec_running h.1 rfl).trans (congrArg _ (hserved 0 .bypass rfl hp)),
    fun hp => (exec_running h.1 rfl).trans (congrArg _ (hserved 1 .monitor rfl hp)),
    fun hp => (exec_running h.1 rfl).trans (congrArg _ (hserved 2 .govern rfl hp))⟩

/-- A QUIESCE request in an operating mode (R154). -/
theorem requestQuiesce_ok {s : State} {now : Mode} (h : s.mode = .operating now) :
    requestQuiesce s = Answer.ok (completeQuiesce
      (enter .quiescing { s with resume := now, quiesceTimer := some s.limits.quiesceLimit })) := by
  simp only [requestQuiesce, h]

/-- A quiesce of a drained governor completes in its own event (R155). -/
theorem completeQuiesce_drained {s : State} (hm : s.mode = .quiescing) (hhold : s.hold = []) (hlive : liveTotal s = 0) :
    completeQuiesce s = { s with
      mode := .quiesced, quiesceTimer := none, events := s.events.raise .quiesceDone
      evalDue := s.evalDue || s.offered.isSome } := by
  rw [completeQuiesce, if_pos ⟨hm, hhold, hlive⟩, enter_of_empty (s := { s with quiesceTimer := none }) hhold]
  rfl

/-- Settles O47: the quiesce completes exactly when nothing is held or LIVE. -/
theorem quiesceAndResumeAccepted : Obligations.QuiesceAndResumeAccepted := by
  unfold Obligations.QuiesceAndResumeAccepted
  intro f s h hv hi drained
  have hlive : ∀ now, liveTotal (enter .quiescing { s with
      resume := now, quiesceTimer := some s.limits.quiesceLimit }) = 0 ↔ ∀ t : DownTag, s.tags[t].isLive = false :=
    fun now => liveTotal_eq_zero _
  refine ⟨fun hp now hm hdrained => ?_, fun hp now hm hdrained => ?_, fun hp hm => ?_⟩
  · refine (exec_running h.1 rfl).trans (congrArg _ ?_)
    refine (takeMode_served (code := 3) h hv hi (fun _ => rfl) (requestQuiesce_ok hm) hp).trans ?_
    rw [completeQuiesce, if_neg fun hdone => hdrained ⟨hdone.2.1, (hlive now).mp hdone.2.2⟩]
    rfl
  · obtain ⟨hhold, htags⟩ := hdrained
    refine (exec_running h.1 rfl).trans (congrArg _ ?_)
    refine (takeMode_served (code := 3) h hv hi (fun _ => rfl) (requestQuiesce_ok hm) hp).trans ?_
    have hdone := completeQuiesce_drained (s := enter .quiescing { s with
      resume := now, quiesceTimer := some s.limits.quiesceLimit }) rfl hhold ((hlive now).mpr htags)
    rw [hdone]
    simp only [Answer.ok, enter, bringOn, bringEval, bringScan, Bool.or_assoc, Bool.or_self]
  · exact (exec_running h.1 rfl).trans
      (congrArg _ (takeMode_served (code := 4) h hv hi (fun _ => rfl) (requestResume_ok hm) hp))

/-- Withdrawing what is held brings on what entering RESTARTING has brought on already. -/
theorem withdrawAll_enter (m : ModeState) (s : State) : withdrawAll (enter m s) =
    { enter m s with hold := s.hold.map (HoldEntry.refuse .withdrawn) } := by
  simp only [withdrawAll, enter, bringOn, bringEval, bringScan, Bool.or_assoc, Bool.or_self, List.isEmpty_map]

/-- Settles O48: what is held is withdrawn, and the restart completes when that is nothing. -/
theorem restartAccepted : Obligations.RestartAccepted := by
  unfold Obligations.RestartAccepted
  intro f s back h hv hi hp hm
  have hexec : exec (.restart f) s = .next (State.answered f .ok [] (restartFrom back s)) :=
    (exec_running h.1 rfl).trans
      (congrArg _ (takeMode_served (code := 5) h hv hi (fun _ => rfl) (requestRestart_ok hm) hp))
  have hfrom : restartFrom back s = completeRestart { enter .restarting { s with resume := back } with
      hold := s.hold.map (HoldEntry.refuse .withdrawn) } :=
    congrArg completeRestart (withdrawAll_enter .restarting { s with resume := back })
  rw [hexec, hfrom]
  refine ⟨fun hhold => ?_, fun hhold => ?_⟩
  · rw [completeRestart, if_neg fun hdone => hhold (List.map_eq_nil_iff.mp hdone.2),
      List.map_congr_left fun e _ => refuse_eq .withdrawn e]
    simp only [enter, bringOn, bringEval, bringScan, List.isEmpty_map]
  · have hjudged : ∀ u : State, u.mode = .restarting → completeRestart u = judgeDrained u :=
      fun u hu => (judgeDrained_of_restarting hu).symm
    rw [hjudged _ rfl, hhold]
    simp only [enter, bringOn, bringEval, bringScan, List.map_nil]

/-- Settles O49: the table of section 9.3, and the codes outside it. -/
theorem modeRequestsRefused : Obligations.ModeRequestsRefused := by
  unfold Obligations.ModeRequestsRefused
  intro f s h hv hi row
  have hrow : ∀ {code own : Byte} {c : Frame → Instr} {st : MgmtStatus},
      exec (c f) s = .next (takeOperation .mode modeCodes own f s) → (code ∈ modeCodes → code = own) →
      writeMode code s = Answer.refuse st s → row code c st :=
    fun hexec hcode ha hp => hexec.trans (congrArg _ (takeMode_served h hv hi hcode ha hp))
  have hb := exec_running (c := .modeBypass f) h.1 rfl
  have hm := exec_running (c := .modeMonitor f) h.1 rfl
  have hg := exec_running (c := .modeGovern f) h.1 rfl
  have hq := exec_running (c := .quiesce f) h.1 rfl
  have hr := exec_running (c := .resume f) h.1 rfl
  have ht := exec_running (c := .restart f) h.1 rfl
  refine ⟨fun hmode => ?_, fun hmode => ?_, fun m hmode => ?_, fun hmode => ?_, fun b hcode c hc => ?_⟩
  · exact ⟨hrow hb (fun _ => rfl) (requestMode_wrong hmode .bypass),
      hrow hm (fun _ => rfl) (requestMode_wrong hmode .monitor),
      hrow hg (fun _ => rfl) (requestMode_wrong hmode .govern),
      hrow hq (fun _ => rfl) (requestQuiesce_wrong hmode)⟩
  · exact hrow ht (fun _ => rfl) (requestRestart_wrong hmode)
  · exact hrow hr (fun _ => rfl) (requestResume_wrong hmode)
  · exact ⟨hrow hb (fun _ => rfl) (writeMode_busy hmode (by decide)),
      hrow hm (fun _ => rfl) (writeMode_busy hmode (by decide)),
      hrow hg (fun _ => rfl) (writeMode_busy hmode (by decide)),
      hrow hq (fun _ => rfl) (writeMode_busy hmode (by decide)),
      hrow hr (fun _ => rfl) (writeMode_busy hmode (by decide)),
      hrow ht (fun _ => rfl) (writeMode_busy hmode (by decide))⟩
  · have hunlisted := notMem_modeCodes hcode
    have hbad := writeMode_unlisted hunlisted s
    simp only [List.mem_cons, List.not_mem_nil, or_false] at hc
    rcases hc with rfl | rfl | rfl | rfl | rfl | rfl
    · exact hrow hb (fun hmem => absurd hmem hunlisted) hbad
    · exact hrow hm (fun hmem => absurd hmem hunlisted) hbad
    · exact hrow hg (fun hmem => absurd hmem hunlisted) hbad
    · exact hrow hq (fun hmem => absurd hmem hunlisted) hbad
    · exact hrow hr (fun hmem => absurd hmem hunlisted) hbad
    · exact hrow ht (fun hmem => absurd hmem hunlisted) hbad

end Sys2Proof.Machine
end

section
/-! The writes of tables and of operations (R21, R57, R66 to R69, R117, R142, R145, R174, R176). -/

namespace Sys2Proof.Machine

/-- A write whose class, index and length are served gives its owning rule's answer (R168). -/
theorem takeWrite_served {c : ObjectClass} {f : Frame} {s : State} {a : Answer} (h : f.Received .write s)
    (hv : f.Verifies .write c) (hc : classServes .write c = true) (hi : indexServes c f.index.toNat = true)
    (hl : writeLengthServes c f.payload.length = true) (ha : ownerWrite c f.index.toNat f.payload s = a) :
    takeFrame .write c f s = State.answered f a.status a.payload a.state := by
  rw [takeFrame_served h hv hc hi hl, ← ha]
  rfl

/-- The command of a frame that is taken does what taking it does. -/
theorem exec_taken {i : Instr} {d : Direction} {c : ObjectClass} {f : Frame} {s u : State} (hrun : s.phase = .running)
    (hreset : resetCommand i = false) (heffect : effect i s = takeFrame d c f s) (hu : takeFrame d c f s = u) :
    exec i s = .next u :=
  (exec_running hrun hreset).trans (congrArg _ (heffect.trans hu))

/-- An index byte in range is its object's number. -/
theorem ofNat_index {n : Nat} [NeZero n] {i : Nat} {k : Fin n} (h : i = k.val) : Fin.ofNat n i = k := by
  rw [h]
  exact Fin.ofNat_val_eq_self k

/-- Settles O52: each owner decodes the payload, and replaces the object or refuses. -/
theorem tableWritesReplaceOrRefuse : Obligations.TableWritesReplaceOrRefuse := by
  unfold Obligations.TableWritesReplaceOrRefuse
  intro f s h ok bad eval
  refine ⟨fun hv hi hl => ?_, fun n hv hi hl => ?_, fun l hv hi hl => ?_, fun g hv hi hl => ?_, fun t hv hi hl => ?_⟩
  · have htake : ∀ {a : Answer}, writeLimits f.payload s = a →
        exec (.limitsWrite f) s = .next (State.answered f a.status a.payload a.state) := fun ha =>
      exec_taken h.1 rfl rfl (takeWrite_served h hv rfl (by rw [hi]; rfl) (by rw [hl]; rfl) ha)
    refine ⟨fun x hx => htake (a := .ok _) ?_, fun hx => htake (a := .refuse .badValue s) ?_⟩
    · simp only [writeLimits, hx]; rfl
    · simp only [writeLimits, hx]
  · have htake : ∀ {a : Answer}, writeRule n f.payload s = a →
        exec (.ruleWrite f) s = .next (State.answered f a.status a.payload a.state) := fun ha =>
      exec_taken h.1 rfl rfl (takeWrite_served h hv rfl (by rw [hi]; exact decide_eq_true n.isLt) (by rw [hl]; rfl)
        (by rw [ownerWrite, ofNat_index hi]; exact ha))
    refine ⟨fun x hx => htake (a := .ok _) ?_, fun hx => htake (a := .refuse .badValue s) ?_⟩
    · simp only [writeRule, hx]; rfl
    · simp only [writeRule, hx]
  · have htake : ∀ {a : Answer}, writeStaged l f.payload s = a →
        exec (.laneStagedWrite f) s = .next (State.answered f a.status a.payload a.state) := fun ha =>
      exec_taken h.1 rfl rfl (takeWrite_served h hv rfl (by rw [hi]; exact decide_eq_true l.isLt) (by rw [hl]; rfl)
        (by rw [ownerWrite, ofNat_index hi]; exact ha))
    refine ⟨fun x hx => htake (a := .ok _) ?_, fun hx => htake (a := .refuse .badValue s) ?_⟩
    · simp only [writeStaged, hx]; rfl
    · simp only [writeStaged, hx]
  · have htake : ∀ {a : Answer}, writePeriod g f.payload s = a →
        exec (.periodWrite f) s = .next (State.answered f a.status a.payload a.state) := fun ha =>
      exec_taken h.1 rfl rfl (takeWrite_served h hv rfl (by rw [hi]; exact decide_eq_true g.isLt) (by rw [hl]; rfl)
        (by rw [ownerWrite, ofNat_index hi]; exact ha))
    refine ⟨fun x hx => htake (a := .ok _) ?_, fun hx => htake (a := .refuse .badValue s) ?_⟩
    · simp only [writePeriod, hx]; rfl
    · simp only [writePeriod, hx]
  · have htake : ∀ {a : Answer}, writeTrigger t f.payload s = a →
        exec (.triggerWrite f) s = .next (State.answered f a.status a.payload a.state) := fun ha =>
      exec_taken h.1 rfl rfl (takeWrite_served h hv rfl (by rw [hi]; exact decide_eq_true t.isLt) (by rw [hl]; rfl)
        (by rw [ownerWrite, ofNat_index hi]; exact ha))
    refine ⟨fun x hx => htake (a := .ok _) ?_, fun hx => htake (a := .refuse .badValue s) ?_⟩
    · simp only [writeTrigger, hx]
    · simp only [writeTrigger, hx]

/-! ## Operations -/

/-- A served write of a shared class, with an operation code of its own row or an unlisted one (log 11). -/
theorem takeOperation_served {c : ObjectClass} {listed : List Byte} {f : Frame} {s : State} {op own : Byte}
    {rest : List Byte} {a : Answer} (h : f.Received .write s) (hv : f.Verifies .write c)
    (hc : classServes .write c = true) (hi : indexServes c f.index.toNat = true)
    (hl : writeLengthServes c f.payload.length = true) (hp : f.payload = op :: rest) (hop : op ∈ listed → op = own)
    (ha : ownerWrite c f.index.toNat f.payload s = a) :
    takeOperation c listed own f s = State.answered f a.status a.payload a.state := by
  have hown : spellsOther listed own f = false := by
    rw [spellsOther_eq_false_iff, hp]
    rintro x ⟨⟩
    exact hop
  rw [takeOperation_own hown, takeWrite_served h hv hc hi hl ha]

/-- A write of COMMIT (R68, R69). -/
theorem takeCommit_served {f : Frame} {s : State} {op b own : Byte} {a : Answer} (h : f.Received .write s)
    (hv : f.Verifies .write .commit) (hi : f.index = 0) (hp : f.payload = [op, b]) (hop : op ∈ twoCodes → op = own)
    (ha : writeCommit op b s = a) :
    takeOperation .commit twoCodes own f s = State.answered f a.status a.payload a.state :=
  takeOperation_served h hv rfl (by rw [hi]; rfl) (by rw [hp]; rfl) hp hop (by rw [hp, ← ha]; rfl)

/-- A write of FAULT (R142, R145). -/
theorem takeFault_served {f : Frame} {s : State} {op own : Byte} {a : Answer} (h : f.Received .write s)
    (hv : f.Verifies .write .fault) (hi : f.index = 0) (hp : f.payload = [op]) (hop : op ∈ twoCodes → op = own)
    (ha : writeFault op s = a) :
    takeOperation .fault twoCodes own f s = State.answered f a.status a.payload a.state :=
  takeOperation_served h hv rfl (by rw [hi]; rfl) (by rw [hp]; rfl) hp hop (by rw [hp, ← ha]; rfl)

/-- A set of generators is the low four bits of its byte (R176). -/
theorem getLsbD_genSet (b : Byte) (g : Gen) : (b.setWidth 4).getLsbD g = b.getLsbD g := by
  rw [BitVec.getLsbD_setWidth, decide_eq_true g.isLt, Bool.true_and]

/-- A generator that a CANCEL names has commit pending (R69). -/
theorem anyPending_iff (b : Byte) (s : State) :
    anyPending (b.setWidth 4) s = true ↔ ∃ g : Gen, b.getLsbD g = true ∧ s.gens[g].commitPending = true := by
  simp only [anyPending, List.any_eq_true, List.mem_finRange, true_and, getLsbD_genSet, Bool.and_eq_true]

/-- Neither operation of a class with two. -/
theorem notMem_twoCodes {op : Byte} (h1 : op ≠ 1) (h2 : op ≠ 2) : op ∉ twoCodes := by
  rintro (_ | ⟨_, _ | ⟨_, h⟩⟩)
  · exact h1 rfl
  · exact h2 rfl
  · cases h

/-- Settles O55: each operation's own answer, and BAD_VALUE for a code that is none. -/
theorem operationWritesAct : Obligations.OperationWritesAct := by
  unfold Obligations.OperationWritesAct
  intro f s h done
  have hcommit := exec_running (c := .commit f) h.1 rfl
  have hcancel := exec_running (c := .cancel f) h.1 rfl
  have hclear := exec_running (c := .clearFault f) h.1 rfl
  have hcounters := exec_running (c := .clearCounters f) h.1 rfl
  refine ⟨fun l hv hi hp => ?_, fun b hv hi hp => ⟨fun hb => ?_, fun hb => ?_⟩,
    fun b hv hi hp => ⟨fun hb => ?_, fun hb hnone => ?_, fun k hk hpending => ?_⟩, fun hv hi hp => ?_,
    fun hv hi hp => ?_, fun op b hv hi hp h1 h2 => ?_, fun op hv hi hp h1 h2 => ?_⟩
  · exact exec_taken h.1 rfl rfl (takeWrite_served (a := writeLive l s) h hv rfl
      (by rw [hi]; exact decide_eq_true l.isLt) (by rw [hp]; rfl) (by rw [ownerWrite, ofNat_index hi]))
  · refine hcommit.trans (congrArg _ (takeCommit_served h hv hi hp (fun _ => rfl) (a := .refuse .badValue s) ?_))
    exact if_pos hb
  · refine ⟨commitGens (b.setWidth 4) s, hcommit.trans (congrArg _
      (takeCommit_served h hv hi hp (fun _ => rfl) (a := .ok _) ?_)), fun g => ?_, rfl⟩
    · exact if_neg hb
    · simp only [commitGens, mapVec_get_fin, getLsbD_genSet]
  · refine hcancel.trans (congrArg _ (takeCommit_served h hv hi hp (fun _ => rfl) (a := .refuse .badValue s) ?_))
    exact if_pos hb
  · refine hcancel.trans (congrArg _ (takeCommit_served h hv hi hp (fun _ => rfl) (a := .refuse .notPending s) ?_))
    have hany : ¬ anyPending (b.setWidth 4) s = true := by
      rw [anyPending_iff]
      rintro ⟨g, hg, hpending⟩
      rw [hnone g hg] at hpending
      cases hpending
    exact (if_neg hb).trans (if_neg hany)
  · have hb : b.setWidth 4 ≠ 0#4 := by
      intro hzero
      have hbit := getLsbD_genSet b k
      rw [hzero, hk] at hbit
      simp at hbit
    refine ⟨cancelGens (b.setWidth 4) s, hcancel.trans (congrArg _
      (takeCommit_served h hv hi hp (fun _ => rfl) (a := .ok _) ?_)), fun g => ?_, rfl⟩
    · exact (if_neg hb).trans (if_pos ((anyPending_iff b s).mpr ⟨k, hk, hpending⟩))
    · simp only [cancelGens, mapVec_get_fin, getLsbD_genSet]
  · exact hclear.trans (congrArg _ (takeFault_served (a := .ok (clearRecord s)) h hv hi hp (fun _ => rfl) rfl))
  · exact hcounters.trans (congrArg _ (takeFault_served (a := .ok (clearCounts s)) h hv hi hp (fun _ => rfl) rfl))
  · have hbad : writeCommit op b s = .refuse .badValue s := (if_neg h1).trans (if_neg h2)
    have hop : ∀ {own : Byte}, op ∈ twoCodes → op = own := fun hmem => absurd hmem (notMem_twoCodes h1 h2)
    exact ⟨hcommit.trans (congrArg _ (takeCommit_served h hv hi hp hop hbad)),
      hcancel.trans (congrArg _ (takeCommit_served h hv hi hp hop hbad))⟩
  · have hbad : writeFault op s = .refuse .badValue s := (if_neg h1).trans (if_neg h2)
    have hop : ∀ {own : Byte}, op ∈ twoCodes → op = own := fun hmem => absurd hmem (notMem_twoCodes h1 h2)
    exact ⟨hclear.trans (congrArg _ (takeFault_served h hv hi hp hop hbad)),
      hcounters.trans (congrArg _ (takeFault_served h hv hi hp hop hbad))⟩

end Sys2Proof.Machine
end

section
/-! What the port refuses or ignores, row by row (R166 to R168, R170, R171, R177). -/

namespace Sys2Proof.Machine

/-- A frame that is not received leaves the port idle (R166). -/
theorem takeFrame_ignored {d : Direction} {c : ObjectClass} {f : Frame} {s : State} (hrun : s.phase = .running)
    (h : ¬ f.Received d s) : takeFrame d c f s = { s with port := Port.idle } :=
  takeFrame_other (receives_eq_false hrun h)

/-- A row's operation code spells another row's operation (log 11). -/
theorem spellsOther_iff {listed : List Byte} {own : Byte} {f : Frame} :
    spellsOther listed own f = true ↔ ∃ b, f.payload.head? = some b ∧ b ∈ listed ∧ b ≠ own := by
  rw [← Bool.not_eq_false, spellsOther_eq_false_iff]
  push Not
  rfl

/-- What a row that writes does with its frame: nothing when it spells another row's operation, else the frame is
taken (log 11). -/
def TakesWrite (c : ObjectClass) (spells : Frame → Prop) (row : Frame → Instr) : Prop :=
  classServes .write c = true ∧ ∀ (f : Frame) (s : State), s.phase = .running →
    (spells f → exec (row f) s = .next s) ∧ (¬ spells f → exec (row f) s = .next (takeFrame .write c f s))

/-- A row whose class it shares with others. -/
theorem takesWrite_operation {c : ObjectClass} {listed : List Byte} {own : Byte} {row : Frame → Instr}
    {spells : Frame → Prop} (hc : classServes .write c = true) (hrow : ∀ f, resetCommand (row f) = false)
    (heffect : ∀ f s, effect (row f) s = takeOperation c listed own f s)
    (hspells : ∀ f, spells f ↔ spellsOther listed own f = true) : TakesWrite c spells row := by
  refine ⟨hc, fun f s hrun => ?_⟩
  rw [exec_running hrun (hrow f), heffect, hspells]
  refine ⟨fun h => ?_, fun h => ?_⟩
  · rw [takeOperation, if_pos h]
  · rw [takeOperation, if_neg h]

/-- A row whose class is its own. -/
theorem takesWrite_frame {c : ObjectClass} {row : Frame → Instr} {spells : Frame → Prop}
    (hc : classServes .write c = true) (hrow : ∀ f, resetCommand (row f) = false)
    (heffect : ∀ f s, effect (row f) s = takeFrame .write c f s) (hspells : ∀ f, ¬ spells f) :
    TakesWrite c spells row := by
  refine ⟨hc, fun f s hrun => ⟨fun h => absurd h (hspells f), fun _ => ?_⟩⟩
  rw [exec_running hrun (hrow f), heffect]

/-- The last index of a class that has a range of indices (R170). -/
def lastIndex (c : ObjectClass) : Nat :=
  match c with
  | .rule => 31
  | .laneStaged => 15
  | .laneLive => 15
  | .period => 3
  | .trigger => 7
  | .hold => 47
  | .tags => 127
  | _ => 0

/-- Every class but LOG serves the indices up to its last (R170). -/
theorem indexServes_iff {c : ObjectClass} {i : Nat} (hlog : c ≠ .log) : indexServes c i = true ↔ i ≤ lastIndex c := by
  cases c <;> simp [indexServes, lastIndex] at hlog ⊢ <;> omega

/-- Every class but COMMIT serves reads (R170). -/
theorem classServes_read {c : ObjectClass} (hc : c ≠ .commit) : classServes .read c = true := by
  cases c with
  | commit => exact absurd rfl hc
  | _ => rfl

/-- Settles O58: each row that writes takes its frame or leaves it, and a frame taken is judged in the order of R168. -/
theorem framesRefusedOrIgnored : Obligations.FramesRefusedOrIgnored := by
  unfold Obligations.FramesRefusedOrIgnored
  intro writes listed spells last fits failed
  have hlast : ∀ c, lastIndex c = last c := by
    intro c
    cases c <;> rfl
  have hindex : ∀ (c : ObjectClass) (i : Nat), c ≠ .log → (indexServes c i = true ↔ i ≤ last c) := fun c i hlog =>
    hlast c ▸ indexServes_iff hlog
  have hindex' : ∀ (c : ObjectClass) (i : Nat), c ≠ .log → last c < i → indexServes c i = false := fun c i hlog hi =>
    Bool.eq_false_iff.mpr fun h => absurd ((hindex c i hlog).mp h) (Nat.not_le.mpr hi)
  have hlength : ∀ (c : ObjectClass) (n : Nat), ¬ fits c n → lengthServes .write c n = false := by
    intro c n h
    rw [← Bool.not_eq_true]
    refine fun hserves => h ?_
    cases c <;> simp_all [lengthServes, writeLengthServes, fits]
  have hread : ∀ bs : List Byte, bs ≠ [] → ∀ c, lengthServes .read c bs.length = false := fun bs hbs c => by
    simp [lengthServes, hbs]
  have hwrites : ∀ c own row, (c, own, row) ∈ writes → TakesWrite c (spells c own) row := by
    have hshared : ∀ (c : ObjectClass) (a : Byte) (f : Frame),
        spells c (some a) f ↔ spellsOther (listed c) a f = true := by
      intro c a f
      rw [spellsOther_iff]
      constructor
      · rintro ⟨_, b, ⟨⟩, hb⟩
        exact ⟨b, hb⟩
      · rintro ⟨b, hb⟩
        exact ⟨a, b, rfl, hb⟩
    have hown : ∀ (c : ObjectClass) (f : Frame), ¬ spells c none f := by
      rintro c f ⟨_, _, ⟨⟩, _⟩
    have hmode := fun (a : Byte) (row : Frame → Instr) => takesWrite_operation (c := .mode) (row := row) rfl
      (hspells := hshared .mode a)
    have hcommit := fun (a : Byte) (row : Frame → Instr) => takesWrite_operation (c := .commit) (row := row) rfl
      (hspells := hshared .commit a)
    have hfault := fun (a : Byte) (row : Frame → Instr) => takesWrite_operation (c := .fault) (row := row) rfl
      (hspells := hshared .fault a)
    have halone := fun (c : ObjectClass) (hc : classServes .write c = true) (row : Frame → Instr) =>
      takesWrite_frame (row := row) hc (hspells := hown c)
    have hall : ∀ x ∈ writes, TakesWrite x.1 (spells x.1 x.2.1) x.2.2 := by
      simp only [writes, List.forall_mem_cons, List.not_mem_nil, false_imp_iff, implies_true, and_true]
      exact ⟨hmode 0 .modeBypass (fun _ => rfl) fun _ _ => rfl, hmode 1 .modeMonitor (fun _ => rfl) fun _ _ => rfl,
        hmode 2 .modeGovern (fun _ => rfl) fun _ _ => rfl, hmode 3 .quiesce (fun _ => rfl) fun _ _ => rfl,
        hmode 4 .resume (fun _ => rfl) fun _ _ => rfl, hmode 5 .restart (fun _ => rfl) fun _ _ => rfl,
        halone .limits rfl .limitsWrite (fun _ => rfl) fun _ _ => rfl,
        halone .rule rfl .ruleWrite (fun _ => rfl) fun _ _ => rfl,
        halone .laneStaged rfl .laneStagedWrite (fun _ => rfl) fun _ _ => rfl,
        halone .laneLive rfl .laneLiveWrite (fun _ => rfl) fun _ _ => rfl,
        halone .period rfl .periodWrite (fun _ => rfl) fun _ _ => rfl,
        hcommit 1 .commit (fun _ => rfl) fun _ _ => rfl, hcommit 2 .cancel (fun _ => rfl) fun _ _ => rfl,
        halone .trigger rfl .triggerWrite (fun _ => rfl) fun _ _ => rfl,
        halone .events rfl .clear (fun _ => rfl) fun _ _ => rfl,
        halone .masks rfl .masksWrite (fun _ => rfl) fun _ _ => rfl,
        hfault 1 .clearFault (fun _ => rfl) fun _ _ => rfl, hfault 2 .clearCounters (fun _ => rfl) fun _ _ => rfl⟩
    exact fun c own row h => hall (c, own, row) h
  refine ⟨fun d c f s hrun => ⟨fun h hv => ?_, fun h hv => ?_, fun hv => ?_⟩,
    fun c f s hrun => ⟨fun h hv => ?_, fun h hv => ?_, fun h => ?_⟩,
    fun c own row hmem f s hrun => ⟨fun hspells => ?_, fun hspells => ?_⟩,
    fun f s hrun => ⟨fun h => ?_, fun h hv => ?_, fun h hv hi => ?_, fun h hv hi hp => ?_⟩,
    fun c f s hrun => ⟨fun h => ?_, fun h hv => ?_, fun h hv hlog hi => ?_, fun h hv hlog hc hi hp => ?_⟩⟩
  · have htake : takeBadCheck d c f s = takeFrame d c f s := if_neg (mt frameVerifies_iff.mp hv)
    exact (exec_running hrun rfl).trans (congrArg _ (htake.trans (takeFrame_badCheck h hv)))
  · have htake : takeBadCheck d c f s = takeFrame d c f s := if_neg (mt frameVerifies_iff.mp hv)
    exact (exec_running hrun rfl).trans (congrArg _ (htake.trans (takeFrame_ignored hrun h)))
  · exact (exec_running hrun rfl).trans (congrArg _ (if_pos (frameVerifies_iff.mpr hv)))
  · exact exec_taken hrun rfl rfl (takeFrame_badClass h hv (by cases c <;> rfl))
  · exact exec_taken hrun rfl rfl (takeFrame_badCheck h hv)
  · exact exec_taken hrun rfl rfl (takeFrame_ignored hrun h)
  · exact ((hwrites c own row hmem).2 f s hrun).1 hspells
  · obtain ⟨hc, hrow⟩ := hwrites c own row hmem
    have hlog : c ≠ .log := by
      rintro rfl
      cases hc
    rw [(hrow f s hrun).2 hspells]
    refine ⟨fun h => ?_, fun h hv => ?_, fun h hv hi => ?_, fun h hv hi hl => ?_⟩
    · rw [takeFrame_ignored hrun h]
    · rw [takeFrame_badCheck h hv]
      rfl
    · rw [takeFrame_badClass h hv (by rw [hindex' c _ hlog hi, Bool.and_false])]
    · rw [takeFrame_badLength h hv (by rw [hc, (hindex c _ hlog).mpr hi]; rfl) (hlength c _ hl)]
  · exact exec_taken hrun rfl rfl (takeFrame_ignored hrun h)
  · exact exec_taken hrun rfl rfl (takeFrame_badCheck h hv)
  · refine exec_taken hrun rfl rfl (takeFrame_badClass h hv ?_)
    rcases hi with hi | hi
    · rw [hi]; rfl
    · simp only [classServes, indexServes, Bool.true_and, Bool.or_eq_false_iff, beq_eq_false_iff_ne]
      omega
  · refine exec_taken hrun rfl rfl (takeFrame_badLength h hv ?_ (hread _ hp .log))
    rcases hi with hi | hi <;> rw [hi] <;> rfl
  · exact takeFrame_ignored hrun h
  · exact takeFrame_badCheck h hv
  · refine takeFrame_badClass h hv ?_
    rcases hi with rfl | hi
    · rfl
    · rw [hindex' c _ hlog hi, Bool.and_false]
  · refine takeFrame_badLength h hv ?_ (hread _ hp c)
    rw [classServes_read hc, (hindex c _ hlog).mpr hi]
    rfl

end Sys2Proof.Machine
end

section
/-! The clear list and the masks (R135, R136, R139, R172). -/

namespace Sys2Proof.Machine

/-! ## The bitmap of event flags -/

/-- A sum of powers of two over a list, doubled. -/
theorem two_mul_foldr_bits {n : Nat} (f : Fin n → Bool) (l : List (Fin n)) :
    2 * l.foldr (fun i m => m + if f i = true then 2 ^ i.val else 0) 0 =
      l.foldr (fun i m => m + if f i = true then 2 ^ (i.val + 1) else 0) 0 := by
  induction l with
  | nil => rfl
  | cons i l ih =>
    rw [List.foldr_cons, List.foldr_cons, ← ih]
    split <;> omega

/-- A number from its bits, as a sum of powers of two. -/
theorem ofBits_eq_foldr : ∀ {n : Nat} (f : Fin n → Bool),
    Nat.ofBits f = (List.finRange n).foldr (fun i m => m + if f i = true then 2 ^ i.val else 0) 0
  | 0, _ => rfl
  | n + 1, f => by
    rw [Nat.ofBits_succ, ofBits_eq_foldr (f ∘ Fin.succ), two_mul_foldr_bits, List.finRange_succ, List.foldr_cons,
      List.foldr_map]
    cases h : f 0 <;> simp

/-- The bitmap of the flags that satisfy a test, in its two bytes. -/
def flagSet (f : Fin 13 → Bool) : BitVec 16 := BitVec.ofNat 16 (flagMap f)

/-- Bit n of the bitmap is flag code n's. -/
theorem getLsbD_flagSet (f : Fin 13 → Bool) (i : Fin 13) : (flagSet f).getLsbD i = f i := by
  rw [flagSet, flagMap, ← ofBits_eq_foldr, BitVec.getLsbD_ofNat, Nat.testBit_ofBits_lt f i i.isLt,
    decide_eq_true (by omega), Bool.true_and]

/-- The bitmap's other bits are clear. -/
theorem getLsbD_flagSet_ge (f : Fin 13 → Bool) {i : Nat} (h : 13 ≤ i) : (flagSet f).getLsbD i = false := by
  rw [flagSet, flagMap, ← ofBits_eq_foldr, BitVec.getLsbD_ofNat, Nat.testBit_ofBits_ge f i h, Bool.and_false]

/-- The bitmap's number is the sum of its flags. -/
theorem toNat_flagSet (f : Fin 13 → Bool) : (flagSet f).toNat = flagMap f := by
  have hlt : flagMap f < 2 ^ 13 := by
    rw [flagMap, ← ofBits_eq_foldr]
    exact Nat.ofBits_lt_two_pow f
  rw [flagSet, BitVec.toNat_ofNat, Nat.mod_eq_of_lt (by omega)]

/-- Two bytes of a number are the high and the low byte of its word. -/
theorem beBytes_two (n : Nat) :
    beBytes 2 n = [(BitVec.ofNat 16 n).extractLsb' 8 8, (BitVec.ofNat 16 n).extractLsb' 0 8] := by
  have hhigh : BitVec.ofNat 8 (n / 256 ^ 1) = (BitVec.ofNat 16 n).extractLsb' 8 8 := by
    apply BitVec.eq_of_toNat_eq
    simp only [BitVec.extractLsb'_toNat, BitVec.toNat_ofNat, Nat.shiftRight_eq_div_pow]
    omega
  have hlow : BitVec.ofNat 8 (n / 256 ^ 0) = (BitVec.ofNat 16 n).extractLsb' 0 8 := by
    apply BitVec.eq_of_toNat_eq
    simp only [BitVec.extractLsb'_toNat, BitVec.toNat_ofNat, Nat.shiftRight_eq_div_pow]
    omega
  rw [beBytes, beBytes, beBytes, hhigh, hlow]

/-! ## The clear list -/

/-- The pairs a payload of pairs carries. -/
theorem decodePairs_flatMap (ps : List (Byte × Byte)) : decodePairs (ps.flatMap fun p => [p.1, p.2]) = ps := by
  induction ps with
  | nil => rfl
  | cons p ps ih => exact congrArg (p :: ·) ih

/-- The length of a payload of pairs. -/
theorem length_flatMap_pairs (ps : List (Byte × Byte)) :
    (ps.flatMap fun p => [p.1, p.2]).length = 2 * ps.length := by
  induction ps with
  | nil => rfl
  | cons p ps ih =>
    rw [List.flatMap_cons, List.length_append, ih, List.length_cons (as := ps), Nat.mul_succ, Nat.add_comm]
    rfl

/-- A payload of one to thirteen pairs has a length that serves (R171). -/
theorem pairs_lengthServes {ps : List (Byte × Byte)} (hne : ps ≠ []) (hle : ps.length ≤ 13) :
    writeLengthServes .events (ps.flatMap fun p => [p.1, p.2]).length = true := by
  have hpos := List.length_pos_iff.mpr hne
  rw [length_flatMap_pairs]
  simp only [writeLengthServes, Bool.and_eq_true, decide_eq_true_eq, beq_iff_eq]
  omega

/-- A pair as it is sent: the flag code as a byte, then the count. -/
def sentPair (p : Fin 13 × Byte) : Byte × Byte := (BitVec.ofNat 8 p.1.val, p.2)

/-- A flag code's byte spells the code. -/
theorem toNat_sentPair (p : Fin 13 × Byte) : (sentPair p).1.toNat = p.1.val := by
  have hlt := p.1.isLt
  simp only [sentPair, BitVec.toNat_ofNat]
  omega

/-- A list that names no flag twice is legal (R139). -/
theorem pairsLegal_sent {ps : List (Fin 13 × Byte)} (h : (ps.map Prod.fst).Nodup) :
    pairsLegal (ps.map sentPair) = true := by
  have hcodes : (ps.map sentPair).map Prod.fst = (ps.map Prod.fst).map fun i : Fin 13 => BitVec.ofNat 8 i.val := by
    simp only [List.map_map]
    rfl
  have hinj : Function.Injective fun i : Fin 13 => BitVec.ofNat 8 i.val := fun i j hij => Fin.ext (by
    have hnat := congrArg BitVec.toNat hij
    simp only [BitVec.toNat_ofNat] at hnat
    omega)
  rw [pairsLegal, hcodes, Bool.and_eq_true, decide_eq_true_eq, List.all_eq_true]
  refine ⟨fun p hp => ?_, h.map hinj⟩
  obtain ⟨q, -, rfl⟩ := List.mem_map.mp hp
  rw [toNat_sentPair]
  exact decide_eq_true q.1.isLt

/-- The count a list gives for a flag: its first pair's, when that names the flag. -/
theorem namedCount_cons (p : Fin 13 × Byte) (ps : List (Fin 13 × Byte)) (i : Fin 13) :
    namedCount ((p :: ps).map sentPair) i = if p.1 = i then some p.2 else namedCount (ps.map sentPair) i := by
  have hname : ((sentPair p).1.toNat == i.val) = decide (p.1 = i) := by
    rw [toNat_sentPair, Bool.beq_eq_decide_eq]
    exact decide_eq_decide.mpr Fin.ext_iff.symm
  simp only [namedCount, List.map_cons, List.find?_cons, hname]
  by_cases h : p.1 = i
  · rw [decide_eq_true h, if_pos h]
    rfl
  · rw [decide_eq_false h, if_neg h]

/-- In a list that names no flag twice, a flag's count is the one it is listed with. -/
theorem namedCount_eq_some {ps : List (Fin 13 × Byte)} (h : (ps.map Prod.fst).Nodup) {i : Fin 13} {b : Byte} :
    namedCount (ps.map sentPair) i = some b ↔ (i, b) ∈ ps := by
  induction ps with
  | nil => simp [namedCount]
  | cons p ps ih =>
    obtain ⟨hnew, hnodup⟩ := List.nodup_cons.mp h
    rw [namedCount_cons, List.mem_cons]
    by_cases hp : p.1 = i
    · have hrest : (i, b) ∉ ps := fun hmem => hnew (hp ▸ List.mem_map_of_mem hmem)
      rw [if_pos hp, Option.some_inj]
      constructor
      · intro hb
        exact .inl (Prod.ext hp.symm hb.symm)
      · rintro (heq | hmem)
        · exact congrArg Prod.snd heq.symm
        · exact absurd hmem hrest
    · rw [if_neg hp, ih hnodup]
      refine ⟨.inr, ?_⟩
      rintro (heq | hmem)
      · exact absurd (congrArg Prod.fst heq.symm) hp
      · exact hmem

/-- A flag has a count exactly when the list names it. -/
theorem namedCount_isSome (ps : List (Fin 13 × Byte)) (i : Fin 13) :
    (namedCount (ps.map sentPair) i).isSome = true ↔ i ∈ ps.map Prod.fst := by
  induction ps with
  | nil => simp [namedCount]
  | cons p ps ih =>
    rw [namedCount_cons, List.map_cons, List.mem_cons]
    by_cases hp : p.1 = i
    · simp [hp]
    · rw [if_neg hp, ih]
      exact ⟨.inr, fun h => h.resolve_left fun heq => hp heq.symm⟩

/-- What a CLEAR clears (R139). -/
theorem clears_iff {ps : List (Fin 13 × Byte)} (h : (ps.map Prod.fst).Nodup) (i : Fin 13) (e : EventFlag) :
    clears (ps.map sentPair) i e = true ↔ e.set = true ∧ (i, e.raises) ∈ ps := by
  rw [clears, Bool.and_eq_true, beq_iff_eq, namedCount_eq_some h]

/-- What a CLEAR lists as not cleared (R139). -/
theorem keeps_iff {ps : List (Fin 13 × Byte)} (h : (ps.map Prod.fst).Nodup) (i : Fin 13) (e : EventFlag) :
    keeps (ps.map sentPair) i e = true ↔ e.set = true ∧ i ∈ ps.map Prod.fst ∧ (i, e.raises) ∉ ps := by
  rw [keeps, Bool.and_eq_true, Bool.and_eq_true, namedCount_isSome, bne_iff_ne, Ne, namedCount_eq_some h, and_assoc]

/-! ## Masks -/

/-- Masks as they are sent decode to themselves (R136). -/
theorem decodeMasks_codes (ms : List Bool) : decodeMasks (ms.map fun b => if b = true then 1 else 0) = some ms := by
  unfold decodeMasks
  induction ms with
  | nil => rfl
  | cons b ms ih =>
    rw [List.map_cons, List.mapM_cons, ih]
    cases b <;> rfl

/-- A mask code outside masked and enabled decodes to nothing (R136). -/
theorem decodeMasks_bad {bs : List Byte} (h : ∃ b ∈ bs, 2 ≤ b.toNat) : decodeMasks bs = none := by
  obtain ⟨b, hb, htwo⟩ := h
  have hcode : switchOfCode b = none := by
    unfold switchOfCode
    rw [if_neg, if_neg]
    · rintro rfl
      exact absurd htwo (by decide)
    · rintro rfl
      exact absurd htwo (by decide)
  unfold decodeMasks
  induction bs with
  | nil => cases hb
  | cons a bs ih =>
    rw [List.mapM_cons]
    rcases List.mem_cons.mp hb with rfl | hb
    · rw [hcode]
      rfl
    · rw [ih hb]
      cases switchOfCode a <;> rfl

/-! ## The statement -/

/-- Settles O57: the list's pairs are what the port decodes, and its legality decides. -/
theorem clearAndMasksWrites : Obligations.ClearAndMasksWrites := by
  unfold Obligations.ClearAndMasksWrites
  intro f s h hi
  have hclear : ∀ ps : List (Byte × Byte), f.Verifies .write .events → ps ≠ [] → ps.length ≤ 13 →
      f.payload = (ps.flatMap fun p => [p.1, p.2]) → ∀ a, writeEvents f.payload s = a →
      exec (.clear f) s = .next (State.answered f a.status a.payload a.state) := by
    intro ps hv hne hle hp a ha
    exact exec_taken h.1 rfl rfl (takeWrite_served h hv rfl (by rw [hi]; rfl)
      (by rw [hp]; exact pairs_lengthServes hne hle) ha)
  refine ⟨?_, fun ms hv hp => ?_, fun ps hv hne hle hp hbad => ?_,
    fun hv hl hbad => ?_⟩
  · intro ps hv hne hnodup hp hit kept
    have hsent : f.payload = ((ps.map sentPair).flatMap fun p => [p.1, p.2]) := by
      rw [hp, List.flatMap_map]
      rfl
    have hle : (ps.map sentPair).length ≤ 13 := by
      have hcard := hnodup.length_le_card
      rw [Fintype.card_fin, List.length_map] at hcard
      rwa [List.length_map]
    have hwrite : writeEvents f.payload s = clearFlags (ps.map sentPair) s := by
      rw [writeEvents, hsent, decodePairs_flatMap, if_pos (pairsLegal_sent hnodup)]
    have hkept : ∀ i : Fin 13, keeps (ps.map sentPair) i s.events.flags[i] = true ↔ kept i :=
      fun i => keeps_iff hnodup i _
    have hhit : ∀ i : Fin 13, clears (ps.map sentPair) i s.events.flags[i] = true ↔ hit i :=
      fun i => clears_iff hnodup i _
    have hany : anyKept (ps.map sentPair) s.events = true ↔ ∃ i, kept i := by
      simp only [anyKept, List.any_eq_true, List.mem_finRange, true_and, hkept]
    have hone : ∀ {i : Fin 13} {n : Nat} (v : BitVec n),
        (hit i → (if clears (ps.map sentPair) i s.events.flags[i] then 0 else v) = 0) ∧
          (¬ hit i → (if clears (ps.map sentPair) i s.events.flags[i] then 0 else v) = v) :=
      fun v => ⟨fun hi => if_pos ((hhit _).mpr hi), fun hi => if_neg (mt (hhit _).mp hi)⟩
    refine ⟨if anyKept (ps.map sentPair) s.events then .notCleared else .ok,
      flagSet fun i => keeps (ps.map sentPair) i s.events.flags[i],
      { s with events := s.events.cleared (ps.map sentPair) },
      (hclear _ hv (mt List.map_eq_nil_iff.mp hne) hle hsent _ hwrite).trans ?_, fun hk => ?_, fun hk => ?_,
      fun i => ?_, fun i hi => getLsbD_flagSet_ge _ hi, fun i => ⟨fun hi => ?_, fun hi => ?_⟩,
      (hone (i := 0) _).1, (hone (i := 0) _).2, (hone (i := 1) _).1, (hone (i := 1) _).2, (hone (i := 9) _).1,
      (hone (i := 9) _).2, rfl⟩
    · rw [flagSet, ← beBytes_two]
      rfl
    · exact if_pos (hany.mpr hk)
    · exact if_neg (mt hany.mp (not_exists.mpr hk))
    · rw [getLsbD_flagSet]
      exact hkept i
    · simp only [Events.cleared, mapVec_get_fin]
      exact if_pos ((hhit i).mpr hi)
    · simp only [Events.cleared, mapVec_get_fin]
      exact if_neg (mt (hhit i).mp hi)
  · have hwrite : writeMasks f.payload s = Answer.ok { s with events := s.events.masked ms.toList } := by
      simp only [writeMasks, hp, decodeMasks_codes]
    refine ⟨_, exec_taken h.1 rfl rfl (takeWrite_served h hv rfl (by rw [hi]; rfl) (by rw [hp]; simp; rfl) hwrite),
      fun i => ?_, rfl, rfl, rfl, rfl⟩
    simp only [Answer.ok, Events.masked, mapVec_get_fin]
    simp
  · have hillegal : ¬ pairsLegal ps = true := by
      rw [pairsLegal, Bool.and_eq_true, List.all_eq_true, decide_eq_true_eq]
      rintro ⟨hcodes, hnodup⟩
      rcases hbad with ⟨p, hp, hge⟩ | hdup
      · exact absurd (of_decide_eq_true (hcodes p hp)) (Nat.not_lt.mpr hge)
      · exact hdup hnodup
    refine hclear ps hv hne hle hp (.refuse .badValue s) ?_
    rw [writeEvents, hp, decodePairs_flatMap, if_neg hillegal]
  · refine exec_taken h.1 rfl rfl (takeWrite_served (a := .refuse .badValue s) h hv rfl (by rw [hi]; rfl)
      (by rw [hl]; rfl) ?_)
    simp only [ownerWrite, writeMasks, decodeMasks_bad hbad]

end Sys2Proof.Machine
end

section
/-! The port byte by byte does what taking the frame does (R162 to R168). -/

namespace Sys2Proof.Machine

/-! ## The header's bits (section 11.2) -/

/-- A direction's code is one bit. -/
theorem directionCode_lt (d : Direction) : directionCode d < 2 := by
  cases d <;> decide

/-- A class's code is four bits. -/
theorem classCode_lt (c : ObjectClass) : classCode c < 16 := by
  cases c <;> decide

/-- Byte 0 as a number. -/
theorem toNat_headerByte (channel : Fin 8) (d : Direction) (c : ObjectClass) :
    (headerByte channel d c).toNat = channel.val * 32 + directionCode d * 16 + classCode c := by
  have hd := directionCode_lt d
  have hc := classCode_lt c
  rw [headerByte, BitVec.toNat_ofNat]
  omega

/-- Byte 0 carries the channel. -/
theorem channelOf_headerByte (channel : Fin 8) (d : Direction) (c : ObjectClass) :
    channelOf (headerByte channel d c) = channel := by
  have hd := directionCode_lt d
  have hc := classCode_lt c
  apply Fin.ext
  simp only [channelOf, toNat_headerByte]
  omega

/-- Byte 0 carries the direction. -/
theorem directionOf_headerByte (channel : Fin 8) (d : Direction) (c : ObjectClass) :
    directionOf (headerByte channel d c) = d := by
  have hc := classCode_lt c
  have hbit : (headerByte channel d c).toNat / 16 % 2 = directionCode d := by
    have hd := directionCode_lt d
    rw [toNat_headerByte]
    omega
  rw [directionOf, hbit]
  cases d <;> rfl

/-- Byte 0 carries the class. -/
theorem classOf_headerByte (channel : Fin 8) (d : Direction) (c : ObjectClass) :
    classOf (headerByte channel d c) = c := by
  have hbits : (headerByte channel d c).toNat % 16 = classCode c := by
    have hc := classCode_lt c
    rw [toNat_headerByte]
    omega
  rw [classOf, hbits]
  cases c <;> rfl

/-! ## The payload bytes -/

/-- Keeping a byte, among the first 56 (R163). -/
theorem take_append_singleton {α : Type} (n : Nat) (l : List α) (a : α) :
    (if (l.take n).length < n then l.take n ++ [a] else l.take n) = (l ++ [a]).take n := by
  rw [List.length_take]
  by_cases h : l.length < n
  · rw [if_pos (by omega), List.take_of_length_le (by omega), List.take_of_length_le (by simp; omega)]
  · rw [if_neg (by omega), List.take_append_of_le_length (by omega)]

/-- As many bytes as the payload length leave the port waiting for the check byte, with the first 56 kept (R163,
R165). -/
theorem portBytes_wholePayload {bs : List Byte} {p : Port} {s : State} (kept : List Byte) (hne : bs ≠ [])
    (hstate : p.state = .payload) (hexpect : p.expect = bs.length)
    (hbuffer : p.buffer = kept.take Config.bufferCapacity) :
    portBytes bs (setPort p s) = setPort { p with
      state := .check, expect := 0, buffer := (kept ++ bs).take Config.bufferCapacity
      check := bs.foldl crcByte p.check } s := by
  induction bs generalizing p kept with
  | nil => exact absurd rfl hne
  | cons b bs ih =>
    rw [List.length_cons] at hexpect
    have hfirst : portByte b (setPort p s) = setPort { p with
        state := if bs = [] then .check else .payload, expect := bs.length
        buffer := (kept ++ [b]).take Config.bufferCapacity, check := crcByte p.check b } s := by
      have hcount : p.expect ≤ 1 ↔ bs = [] := by
        rw [hexpect, ← List.length_eq_zero_iff]
        omega
      have htaken : portByte b (setPort p s) = payloadByteTaken b (setPort p s) := by
        simp only [portByte, setPort, hstate]
      rw [htaken, ← take_append_singleton, ← hbuffer, ← if_congr hcount rfl rfl]
      have hleft : p.expect - 1 = bs.length := by rw [hexpect, Nat.add_sub_cancel]
      rw [← hleft]
      rfl
    change portBytes bs (portByte b (setPort p s)) = _
    rw [hfirst]
    by_cases hbs : bs = []
    · subst hbs
      rfl
    · rw [if_neg hbs, ih (kept ++ [b]) hbs rfl rfl rfl, List.append_assoc]
      rfl

/-! ## The judgement does not read the port -/

/-- An answer whose state has its port replaced. -/
def Answer.withPort (p : Port) (a : Answer) : Answer := { a with state := setPort p a.state }

/-- Concluding replaces the port. -/
theorem conclude_withPort (answered : Bool) (p : Port) (a : Answer) :
    conclude answered (a.withPort p) = conclude answered a := rfl

/-- The completion of a quiesce does not read the port. -/
theorem completeQuiesce_setPort (p : Port) (s : State) :
    completeQuiesce (setPort p s) = setPort p (completeQuiesce s) := by
  rw [completeQuiesce, completeQuiesce, apply_ite (setPort p)]
  rfl

/-- Nor does that of a RESTART. -/
theorem completeRestart_setPort (p : Port) (s : State) :
    completeRestart (setPort p s) = setPort p (completeRestart s) := by
  rw [completeRestart, completeRestart, apply_ite (setPort p)]
  rfl

/-- An answer that state and resume mode alone bring to a form which does not read the port. -/
theorem withPort_of_form {request : State → Answer} {p : Port} {s : State} (form : State → Answer)
    (h : ∀ u : State, u.mode = s.mode → u.resume = s.resume → request u = form u)
    (hform : form (setPort p s) = (form s).withPort p) : request (setPort p s) = (request s).withPort p := by
  rw [h (setPort p s) rfl rfl, h s rfl rfl, hform]

/-- A request for a mode does not read the port. -/
theorem requestMode_setPort (m : Mode) (p : Port) (s : State) :
    requestMode m (setPort p s) = (requestMode m s).withPort p := by
  cases hm : s.mode with
  | operating now =>
    refine withPort_of_form _ (fun u hu _ => requestMode_operating (hu.trans hm)) ?_
    rw [apply_ite Answer.ok, apply_ite Answer.ok, apply_ite (Answer.withPort p)]
    rfl
  | quiescing => exact withPort_of_form _ (fun u hu _ => requestMode_wrong (.inl (hu.trans hm)) m) rfl
  | quiesced => exact withPort_of_form _ (fun u hu _ => requestMode_wrong (.inr (hu.trans hm)) m) rfl
  | restarting => exact withPort_of_form _ (fun u hu _ => requestMode_busy (hu.trans hm) m) rfl

/-- A QUIESCE request does not read the port. -/
theorem requestQuiesce_setPort (p : Port) (s : State) :
    requestQuiesce (setPort p s) = (requestQuiesce s).withPort p := by
  cases hm : s.mode with
  | operating now =>
    exact withPort_of_form _ (fun u hu _ => requestQuiesce_ok (hu.trans hm))
      (congrArg Answer.ok (completeQuiesce_setPort p (enter .quiescing { s with
        resume := now, quiesceTimer := some s.limits.quiesceLimit })))
  | quiescing => exact withPort_of_form _ (fun u hu _ => requestQuiesce_wrong (.inl (hu.trans hm))) rfl
  | quiesced => exact withPort_of_form _ (fun u hu _ => requestQuiesce_wrong (.inr (hu.trans hm))) rfl
  | restarting => exact withPort_of_form _ (fun u hu _ => requestQuiesce_busy (hu.trans hm)) rfl

/-- A RESUME request does not read the port. -/
theorem requestResume_setPort (p : Port) (s : State) :
    requestResume (setPort p s) = (requestResume s).withPort p := by
  cases hm : s.mode with
  | operating now => exact withPort_of_form _ (fun u hu _ => requestResume_wrong (hu.trans hm)) rfl
  | quiescing => exact withPort_of_form _ (fun u hu _ => requestResume_ok (.inl (hu.trans hm))) rfl
  | quiesced => exact withPort_of_form _ (fun u hu _ => requestResume_ok (.inr (hu.trans hm))) rfl
  | restarting => exact withPort_of_form _ (fun u hu _ => requestResume_busy (hu.trans hm)) rfl

/-- A RESTART request does not read the port. -/
theorem requestRestart_setPort (p : Port) (s : State) :
    requestRestart (setPort p s) = (requestRestart s).withPort p := by
  have hfrom : ∀ back, Answer.ok (restartFrom back (setPort p s)) = (Answer.ok (restartFrom back s)).withPort p :=
    fun back => congrArg Answer.ok
      (completeRestart_setPort p (withdrawAll (enter .restarting { s with resume := back })))
  cases hm : s.mode with
  | operating now => exact withPort_of_form _ (fun u hu _ => requestRestart_ok (.inl (hu.trans hm))) (hfrom now)
  | quiesced =>
    exact withPort_of_form _ (fun u hu hback => requestRestart_ok (.inr ⟨hu.trans hm, hback⟩)) (hfrom s.resume)
  | quiescing => exact withPort_of_form _ (fun u hu _ => requestRestart_wrong (hu.trans hm)) rfl
  | restarting => exact withPort_of_form _ (fun u hu _ => requestRestart_busy (hu.trans hm)) rfl

/-- A MODE write does not read the port. -/
theorem writeMode_setPort (b : Byte) (p : Port) (s : State) :
    writeMode b (setPort p s) = (writeMode b s).withPort p := by
  simp only [writeMode, apply_ite (Answer.withPort p), requestMode_setPort, requestQuiesce_setPort,
    requestResume_setPort, requestRestart_setPort]
  rfl

/-- The owning rule of a write does not read the port. -/
theorem ownerWrite_setPort (c : ObjectClass) (i : Nat) (bs : List Byte) (p : Port) (s : State) :
    ownerWrite c i bs (setPort p s) = (ownerWrite c i bs s).withPort p := by
  cases c with
  | mode => exact writeMode_setPort _ p s
  | limits => simp only [ownerWrite, writeLimits]; cases decodeLimits bs <;> rfl
  | rule => simp only [ownerWrite, writeRule]; cases decodeRule bs <;> rfl
  | laneStaged => simp only [ownerWrite, writeStaged]; cases decodeLane bs <;> rfl
  | laneLive => rfl
  | period => simp only [ownerWrite, writePeriod]; cases decodePeriod bs <;> rfl
  | commit =>
    simp only [ownerWrite, writeCommit, requestCommit, requestCancel, apply_ite (Answer.withPort p)]
    rfl
  | trigger => simp only [ownerWrite, writeTrigger]; cases decodeTrigger bs <;> rfl
  | events =>
    simp only [ownerWrite, writeEvents, apply_ite (Answer.withPort p)]
    rfl
  | masks => simp only [ownerWrite, writeMasks]; cases decodeMasks bs <;> rfl
  | fault =>
    simp only [ownerWrite, writeFault, apply_ite (Answer.withPort p)]
    rfl
  | identity | log | timebase | hold | tags => rfl

/-- The owning rule of a read does not read the port. -/
theorem ownerRead_setPort (c : ObjectClass) (i : Nat) (p : Port) (s : State) :
    ownerRead c i (setPort p s) = (ownerRead c i s).withPort p := by
  cases c <;> rfl

/-- The judgement of a frame does not read the port. -/
theorem judgeFrame_setPort (v : Bool) (d : Direction) (c : ObjectClass) (i n : Nat) (bs : List Byte) (p : Port)
    (s : State) : judgeFrame v d c i n bs (setPort p s) = (judgeFrame v d c i n bs s).withPort p := by
  have howner : ownerAnswer d c i bs (setPort p s) = (ownerAnswer d c i bs s).withPort p := by
    cases d with
    | read => exact ownerRead_setPort c i p s
    | write => exact ownerWrite_setPort c i bs p s
  simp only [judgeFrame, apply_ite (Answer.withPort p), howner]
  rfl

/-! ## A whole frame -/

/-- The port before the check byte of a frame that is received (R163, R165). -/
def checkPort (d : Direction) (c : ObjectClass) (f : Frame) : Port :=
  { state := .check, header := [headerByte f.channel d c, f.index, BitVec.ofNat 8 f.payload.length], expect := 0,
    buffer := f.payload.take Config.bufferCapacity, check := crc8 (coveredBytes d c f), reply := [] }

/-- The bytes before the check byte (R163, R165). -/
theorem portBytes_covered {d : Direction} {c : ObjectClass} {f : Frame} {s : State} (hrun : s.phase = .running)
    (hlen : f.payload.length ≤ 255) :
    portBytes (coveredBytes d c f) (portFall s) =
      setPort (if receives f.channel d s then checkPort d c f else Port.idle) s := by
  have hbytes : coveredBytes d c f =
      [headerByte f.channel d c, f.index, BitVec.ofNat 8 f.payload.length] ++ f.payload := rfl
  have hlength : (BitVec.ofNat 8 f.payload.length).toNat = f.payload.length := by
    rw [BitVec.toNat_ofNat]
    omega
  rw [hbytes, portBytes_append, portBytes_header hrun, channelOf_headerByte, directionOf_headerByte]
  cases receives f.channel d s with
  | false => exact portBytes_idle rfl
  | true =>
    by_cases hp : f.payload = []
    · rw [hp]
      simp only [headerPort, checkPort, coveredBytes, hp]
      rfl
    · have hzero : BitVec.ofNat 8 f.payload.length ≠ 0 := by
        intro h
        rw [h] at hlength
        exact hp (List.length_eq_zero_iff.mp hlength.symm)
      refine (portBytes_wholePayload [] hp (if_neg hzero) hlength rfl).trans ?_
      rfl

/-- A whole frame, byte by byte, leaves what taking it leaves (R163 to R168; log 10). -/
theorem portBytes_frame {d : Direction} {c : ObjectClass} {f : Frame} {s : State} (hrun : s.phase = .running)
    (hlen : f.payload.length ≤ 255) : portBytes (frameBytes d c f) (portFall s) = takeFrame d c f s := by
  rw [frameBytes, portBytes_append, portBytes_covered hrun hlen]
  cases hr : receives f.channel d s with
  | false => exact (takeFrame_other hr).symm
  | true =>
    have hlength : (BitVec.ofNat 8 f.payload.length).toNat = f.payload.length := by
      rw [BitVec.toNat_ofNat]
      omega
    have hcheck : portBytes [f.check] (setPort (checkPort d c f) s) = conclude (addressed f.channel s)
        (judgeFrame (frameVerifies d c f) d c f.index.toNat f.payload.length
          (f.payload.take Config.bufferCapacity) (setPort (checkPort d c f) s)) := by
      show conclude (addressed (channelOf (headerByte f.channel d c)) s) (judgeFrame (frameVerifies d c f)
        (directionOf (headerByte f.channel d c)) (classOf (headerByte f.channel d c)) f.index.toNat
        (BitVec.ofNat 8 f.payload.length).toNat (f.payload.take Config.bufferCapacity)
        (setPort (checkPort d c f) s)) = _
      rw [channelOf_headerByte, directionOf_headerByte, classOf_headerByte, hlength]
    rw [takeFrame_received hr, if_pos rfl, hcheck, judgeFrame_setPort, conclude_withPort]

/-! ## The check byte -/

/-- The check byte is the remainder of the bytes before it (R164). -/
theorem crc8_remainder (bs : List Byte) :
    crcPolynomial ∣ bitPolynomial (bs.flatMap bitsOfByte) * Polynomial.X ^ 8 +
      bitPolynomial (bitsOfByte (crc8 bs)) := by
  induction bs using List.reverseRecOn with
  | nil =>
    have hzero : bitPolynomial (bitsOfByte (crc8 [])) = 0 := by
      simp [bitPolynomial, bitsOfByte, crc8]
    rw [hzero]
    simp [bitPolynomial]
  | append_singleton bs b ih =>
    have hcrc : crc8 (bs ++ [b]) = crcByte (crc8 bs) b := by
      simp only [crc8, List.foldl_append, List.foldl_cons, List.foldl_nil]
    have hbits : bitPolynomial ((bs ++ [b]).flatMap bitsOfByte) =
        bitPolynomial (bs.flatMap bitsOfByte) * Polynomial.X ^ 8 + bitPolynomial (bitsOfByte b) := by
      rw [List.flatMap_append, bitPolynomial_append, List.flatMap_singleton]
      rfl
    obtain ⟨q, hq⟩ := ih
    obtain ⟨r, hr⟩ := crcByte_remainder (crc8 bs) b
    have h2 := CharTwo.add_self_eq_zero (bitPolynomial (bitsOfByte (crc8 bs)))
    rw [hcrc, hbits]
    exact ⟨q * Polynomial.X ^ 8 + r, by linear_combination Polynomial.X ^ 8 * hq + hr - Polynomial.X ^ 8 * h2⟩

/-! ## Bits and bytes -/

/-- A byte is what its eight bits spell (R162). -/
theorem ofBoolListBE_bitsOfByte (b : Byte) : BitVec.ofBoolListBE (bitsOfByte b) = b := by
  refine BitVec.eq_of_getMsbD_eq fun i (hi : i < 8) => ?_
  rw [BitVec.getMsbD_ofBoolListBE]
  interval_cases i <;> simp [bitsOfByte, BitVec.getMsbD]

/-- Bits in the order they are sent spell the bytes they were sent from (R162). -/
theorem bytesOfBits_bitsOfByte (bs : List Byte) : bytesOfBits (bs.flatMap bitsOfByte) = bs := by
  induction bs with
  | nil => rfl
  | cons b bs ih =>
    exact congrArg₂ List.cons (ofBoolListBE_bitsOfByte b) ih

/-- Settles O60: byte by byte a frame is taken, and in REPLY its answer shifted out. -/
theorem portBytesRefineFrame : Obligations.PortBytesRefineFrame := by
  unfold Obligations.PortBytesRefineFrame
  intro polynomial
  refine ⟨fun d c f => rfl, fun channel d c => ?_, fun st => ?_, crc8_remainder, fun d c f => eq_comm,
    fun f st payload h => ?_, fun d c f s hrun hlen => portBytes_frame hrun hlen, fun sent c s hphase => ?_,
    fun sent s hreply => ?_, fun s hreply => ?_, fun b i => ?_, bytesOfBits_bitsOfByte⟩
  · rw [toNat_headerByte]
    cases d <;> cases c <;> rfl
  · cases st <;> rfl
  · rw [replyPort, if_neg h]
    rfl
  · have hidle : portBytes sent (portFall s) = setPort Port.idle s := by
      rw [show portFall s = setPort Port.idle s by simp only [portFall, hphase, setPort]]
      exact portBytes_idle rfl
    refine ⟨hidle, fun p t ht => ?_⟩
    have hend : exec (.resetEnd p) (setPort Port.idle s) = .next (leaveReset c p (setPort Port.idle s)) := by
      show execResetEnd p _ = _
      simp only [execResetEnd, setPort_fields, hphase]
    rw [hidle, hend] at ht
    cases ht
    exact ⟨rfl, fun more => portBytes_idle rfl⟩
  · have hdrives : portDrives (portBytes sent s) = some (s.port.reply.getD sent.length 0xFF) := by
      rw [portBytes_reply hreply]
      simp only [portDrives, setPort_fields, hreply, List.headD_eq_head?_getD, List.head?_drop,
        List.getD_eq_getElem?_getD]
    refine ⟨hdrives, congrArg (Option.map bitsOfByte) hdrives, ?_⟩
    rw [portBytes_reply hreply]
    rfl
  · unfold portShifts portDrives
    cases hs : s.port.state with
    | reply => exact absurd hs hreply
    | idle | header | payload | check => exact ⟨rfl, rfl⟩
  · fin_cases i <;> rfl

end Sys2Proof.Machine
end

section
/-! The layouts of the written payloads (R21, R66, R67, R117, R174, R179, R180, section 11.3). -/

namespace Sys2Proof.Machine

/-! ## Numbers in bytes (R179) -/

/-- Two bytes spell a number. -/
theorem beNat_two (a b : Byte) : beNat [a, b] = a.toNat * 256 + b.toNat := by
  simp [beNat]

/-- Three bytes spell a number. -/
theorem beNat_three (a b c : Byte) : beNat [a, b, c] = a.toNat * 65536 + b.toNat * 256 + c.toNat := by
  simp only [beNat, List.foldl_cons, List.foldl_nil]
  omega

/-- Four bytes spell a number. -/
theorem beNat_four (a b c d : Byte) :
    beNat [a, b, c, d] = a.toNat * 16777216 + b.toNat * 65536 + c.toNat * 256 + d.toNat := by
  simp only [beNat, List.foldl_cons, List.foldl_nil]
  omega

/-! ## Codes -/

/-- A byte names a rule action when it is its code. -/
theorem actionOfCode_eq_some {b : Byte} {x : Action} : actionOfCode b = some x ↔ b = x.code := by
  cases x <;> grind [actionOfCode, Action.code]

/-- A byte names a lane kind when it is its code. -/
theorem laneKindOfCode_eq_some {b : Byte} {x : LaneKind} : laneKindOfCode b = some x ↔ b = x.code := by
  cases x <;> grind [laneKindOfCode, LaneKind.code]

/-- A byte names a policy when it is its code. -/
theorem policyOfCode_eq_some {b : Byte} {x : Policy} : policyOfCode b = some x ↔ b = x.code := by
  cases x <;> grind [policyOfCode, Policy.code]

/-- A byte names a trigger mode when it is its code. -/
theorem triggerModeOfCode_eq_some {b : Byte} {x : TriggerMode} : triggerModeOfCode b = some x ↔ b = x.code := by
  cases x <;> grind [triggerModeOfCode, TriggerMode.code]

/-- A byte names a expiry action when it is its code. -/
theorem expiryActionOfCode_eq_some {b : Byte} {x : ExpiryAction} : expiryActionOfCode b = some x ↔ b = x.code := by
  cases x <;> grind [expiryActionOfCode, ExpiryAction.code]

/-- A byte names a full action when it is its code. -/
theorem fullActionOfCode_eq_some {b : Byte} {x : FullAction} : fullActionOfCode b = some x ↔ b = x.code := by
  cases x <;> grind [fullActionOfCode, FullAction.code]

/-- A byte names a log policy when it is its code. -/
theorem logPolicyOfCode_eq_some {b : Byte} {x : LogPolicy} : logPolicyOfCode b = some x ↔ b = x.code := by
  cases x <;> grind [logPolicyOfCode, LogPolicy.code]

/-- A byte names masked or enabled, off or on, when it is its code. -/
theorem switchOfCode_eq_some {b : Byte} {x : Bool} : switchOfCode b = some x ↔ b = switchCode x := by
  cases x <;> grind [switchOfCode, switchCode]

/-- A byte names the generator of its number. -/
theorem genOfCode_eq_some {b : Byte} {g : Gen} : genOfCode b = some g ↔ b.toNat = g.val := by
  unfold genOfCode
  split
  · rw [Option.some_inj, Fin.ext_iff]
  · exact iff_of_false (fun h => by cases h) (by omega)

/-- A byte names the lane of its number. -/
theorem laneOfCode_eq_some {b : Byte} {l : LaneId} : laneOfCode b = some l ↔ b.toNat = l.val := by
  unfold laneOfCode
  split
  · rw [Option.some_inj, Fin.ext_iff]
  · exact iff_of_false (fun h => by cases h) (by omega)

/-- A form code and two value bytes spell a limit, or OFF (R180). -/
theorem responseLimitOf_eq_some {form : Byte} {value : List Byte} {r : Option Nat} :
    responseLimitOf form value = some r ↔ form = formCode r ∧ ∀ n, r = some n → n = beNat value := by
  cases r <;> grind [responseLimitOf, formCode]

/-- A byte below 2 is 0 or 1. -/
theorem byte_lt_two {b : Byte} : b.toNat < 2 ↔ b = 0 ∨ b = 1 := by
  rw [← BitVec.toNat_inj, ← BitVec.toNat_inj]
  exact Nat.lt_succ_iff.trans Nat.le_one_iff_eq_zero_or_eq_one

/-- A byte below 3 is 0, 1 or 2. -/
theorem byte_lt_three {b : Byte} : b.toNat < 3 ↔ b = 0 ∨ b = 1 ∨ b = 2 := by
  rw [← BitVec.toNat_inj, ← BitVec.toNat_inj, ← BitVec.toNat_inj]
  show b.toNat < 3 ↔ b.toNat = 0 ∨ b.toNat = 1 ∨ b.toNat = 2
  omega

/-- Codes 0 and 1 take the bytes below 2. -/
theorem exists_code_of_two {α : Type} {code : α → Byte} {b : Byte} (hb : b.toNat < 2)
    (h0 : ∃ x, code x = 0) (h1 : ∃ x, code x = 1) : ∃ x, b = code x := by
  rcases byte_lt_two.mp hb with rfl | rfl
  · exact h0.imp fun _ => Eq.symm
  · exact h1.imp fun _ => Eq.symm

/-- Codes 0, 1 and 2 take the bytes below 3. -/
theorem exists_code_of_three {α : Type} {code : α → Byte} {b : Byte} (hb : b.toNat < 3)
    (h0 : ∃ x, code x = 0) (h1 : ∃ x, code x = 1) (h2 : ∃ x, code x = 2) : ∃ x, b = code x := by
  rcases byte_lt_three.mp hb with rfl | rfl | rfl
  · exact h0.imp fun _ => Eq.symm
  · exact h1.imp fun _ => Eq.symm
  · exact h2.imp fun _ => Eq.symm

/-- Rule action codes are the bytes below 3. -/
theorem actionCode_iff {b : Byte} : b.toNat < 3 ↔ ∃ x : Action, b = x.code := by
  refine ⟨fun h => exists_code_of_three h ⟨.forward, rfl⟩ ⟨.govern, rfl⟩ ⟨.refuse, rfl⟩, ?_⟩
  rintro ⟨x, rfl⟩
  cases x <;> decide

/-- Lane kind codes are the bytes below 3. -/
theorem laneKindCode_iff {b : Byte} : b.toNat < 3 ↔ ∃ x : LaneKind, b = x.code := by
  refine ⟨fun h => exists_code_of_three h ⟨.metered, rfl⟩ ⟨.openLane, rfl⟩ ⟨.closed, rfl⟩, ?_⟩
  rintro ⟨x, rfl⟩
  cases x <;> decide

/-- Policy codes are the bytes below 3. -/
theorem policyCode_iff {b : Byte} : b.toNat < 3 ↔ ∃ x : Policy, b = x.code := by
  refine ⟨fun h => exists_code_of_three h ⟨.hold, rfl⟩ ⟨.refuse, rfl⟩ ⟨.mark, rfl⟩, ?_⟩
  rintro ⟨x, rfl⟩
  cases x <;> decide

/-- Trigger mode codes are the bytes below 3. -/
theorem triggerModeCode_iff {b : Byte} : b.toNat < 3 ↔ ∃ x : TriggerMode, b = x.code := by
  refine ⟨fun h => exists_code_of_three h ⟨.once, rfl⟩ ⟨.every, rfl⟩ ⟨.firstInPeriod, rfl⟩, ?_⟩
  rintro ⟨x, rfl⟩
  cases x <;> decide

/-- Expiry action codes are the bytes below 2. -/
theorem expiryActionCode_iff {b : Byte} : b.toNat < 2 ↔ ∃ x : ExpiryAction, b = x.code := by
  refine ⟨fun h => exists_code_of_two h ⟨.force, rfl⟩ ⟨.refuse, rfl⟩, ?_⟩
  rintro ⟨x, rfl⟩
  cases x <;> decide

/-- Full action codes are the bytes below 2. -/
theorem fullActionCode_iff {b : Byte} : b.toNat < 2 ↔ ∃ x : FullAction, b = x.code := by
  refine ⟨fun h => exists_code_of_two h ⟨.stall, rfl⟩ ⟨.refuse, rfl⟩, ?_⟩
  rintro ⟨x, rfl⟩
  cases x <;> decide

/-- Log policy codes are the bytes below 2. -/
theorem logPolicyCode_iff {b : Byte} : b.toNat < 2 ↔ ∃ x : LogPolicy, b = x.code := by
  refine ⟨fun h => exists_code_of_two h ⟨.stop, rfl⟩ ⟨.wrap, rfl⟩, ?_⟩
  rintro ⟨x, rfl⟩
  cases x <;> decide

/-- The codes of a yes/no item are the bytes below 2. -/
theorem switchCode_iff {b : Byte} : b.toNat < 2 ↔ ∃ x : Bool, b = switchCode x := by
  refine ⟨fun h => exists_code_of_two h ⟨false, rfl⟩ ⟨true, rfl⟩, ?_⟩
  rintro ⟨x, rfl⟩
  cases x <;> decide

/-! ## Patterns -/

/-- A kinds byte's set, bit by bit. -/
theorem getLsbD_kindsOf (k : Byte) (i : Fin 3) : (kindsOf k).getLsbD i = k.getLsbD i := by
  rw [kindsOf, BitVec.getLsbD_setWidth, decide_eq_true i.isLt, Bool.true_and]

/-- Some kind of the set is named in the kinds byte's bits 0 to 2 (R180). -/
theorem kindsOf_ne_zero (k : Byte) :
    kindsOf k ≠ 0 ↔ k.getLsbD 0 = true ∨ k.getLsbD 1 = true ∨ k.getLsbD 2 = true := by
  have hzero : kindsOf k = 0 ↔ ∀ i : Fin 3, k.getLsbD i = false := by
    constructor
    · intro h i
      rw [← getLsbD_kindsOf, h]
      exact BitVec.getLsbD_zero
    · intro h
      refine BitVec.eq_of_getLsbD_eq fun i hi => ?_
      exact (getLsbD_kindsOf k ⟨i, hi⟩).trans ((h ⟨i, hi⟩).trans BitVec.getLsbD_zero.symm)
  rw [Ne, hzero, not_forall]
  simp [Fin.exists_fin_succ]

/-- A pattern's bytes are legal when its pages are in order and in range and some kind is named (R21, R117). -/
theorem patternOf_legal_iff (base limit : List Byte) (v m k : Byte) :
    (patternOf base limit v m k).legal = true ↔ beNat base ≤ beNat limit ∧ beNat limit ≤ 268435455 ∧
      (k.getLsbD 0 = true ∨ k.getLsbD 1 = true ∨ k.getLsbD 2 = true) := by
  rw [← kindsOf_ne_zero]
  rw [Pattern.legal, Bool.and_eq_true, Bool.and_eq_true, decide_eq_true_iff, decide_eq_true_iff, bne_iff_ne, and_assoc]
  rfl

/-! ## Legal records and settings -/

/-- A limit that is a number lies from 1 to the top. -/
theorem optionWithin_iff (top : Nat) (o : Option Nat) :
    optionWithin top o = true ↔ ∀ n, o = some n → 1 ≤ n ∧ n ≤ top := by
  cases o <;> simp [optionWithin]

/-- A number of which 0 says absent is within its limit when it is no higher. -/
theorem optionWithin_zeroIsNone (top n : Nat) : optionWithin top (zeroIsNone n) = true ↔ n ≤ top := by
  unfold zeroIsNone
  split
  · next h => simp [optionWithin, h]
  · next h =>
    simp only [optionWithin, Bool.and_eq_true, decide_eq_true_eq]
    omega

/-- What makes a lane's record legal (R66). -/
theorem laneConfig_legal_iff (c : LaneConfig) : c.legal = true ↔ 16 ≤ c.budget ∧ c.budget ≤ 16777215 ∧
    optionWithin c.budget c.watermark = true ∧ optionWithin 128 c.concurrency = true := by
  rw [LaneConfig.legal, Bool.and_eq_true, Bool.and_eq_true, Bool.and_eq_true, decide_eq_true_iff, decide_eq_true_iff,
    and_assoc, and_assoc]
  rfl

/-- What makes settings legal (R174). -/
theorem limits_legal_iff (x : Limits) : x.legal = true ↔ 1 ≤ x.holdLimit ∧ x.holdLimit ≤ 65535 ∧
    (∀ n, x.responseLimit = some n → 1 ≤ n ∧ n ≤ 65535) ∧ 1 ≤ x.quiesceLimit ∧ x.quiesceLimit ≤ 65535 ∧
    1 ≤ x.logThreshold ∧ x.logThreshold ≤ 64 ∧ 1 ≤ x.orphanAlarm ∧ x.orphanAlarm ≤ 127 := by
  rw [← optionWithin_iff]
  simp only [Limits.legal, Bool.and_eq_true, decide_eq_true_eq, and_assoc]
  rfl

/-- The response limit that a form byte and two value bytes spell, when they spell one (R180). -/
theorem responseLimitOf_eq {form : Byte} {value : List Byte} {r : Option Nat}
    (h : responseLimitOf form value = some r) :
    r = if form.toNat = 1 then none else some (beNat value) := by
  obtain ⟨rfl, hvalue⟩ := responseLimitOf_eq_some.mp h
  cases r with
  | none => rfl
  | some n => exact congrArg some (hvalue n rfl)

/-- The response limits a LIMITS write may spell: OFF, or a number from 1 up (R174, R180). -/
theorem responseLimitOf_legal (form r0 r1 : Byte) :
    (∃ r, responseLimitOf form [r0, r1] = some r ∧ ∀ n, r = some n → 1 ≤ n ∧ n ≤ 65535) ↔
      form.toNat = 1 ∨ (form.toNat = 0 ∧ 1 ≤ r0.toNat * 256 + r1.toNat) := by
  constructor
  · rintro ⟨r, h, hr⟩
    obtain ⟨rfl, hvalue⟩ := responseLimitOf_eq_some.mp h
    cases r with
    | none => exact .inl rfl
    | some n =>
      have hn := (hr n rfl).1
      rw [hvalue n rfl, beNat_two] at hn
      exact .inr ⟨rfl, hn⟩
  · rintro (h | ⟨h, hone⟩)
    · exact ⟨none, responseLimitOf_eq_some.mpr ⟨BitVec.eq_of_toNat_eq h, by simp⟩, by simp⟩
    · refine ⟨some (beNat [r0, r1]), responseLimitOf_eq_some.mpr ⟨BitVec.eq_of_toNat_eq h, by simp⟩, ?_⟩
      rintro n ⟨⟩
      rw [beNat_two]
      omega

/-! ## What decodes -/

/-- What a RULE write decodes to (R21). -/
theorem decodeRule_eq_some {f b0 b1 b2 b3 l0 l1 l2 l3 v m k a n : Byte} {e : RuleEntry} :
    decodeRule [f, b0, b1, b2, b3, l0, l1, l2, l3, v, m, k, a, n] = some e ↔
      a = e.action.code ∧ n.toNat = e.lane.val ∧
        (patternOf [b0, b1, b2, b3] [l0, l1, l2, l3] v m k).legal = true ∧
        e.pattern = patternOf [b0, b1, b2, b3] [l0, l1, l2, l3] v m k ∧ e.enabled = f.getLsbD 0 ∧
        e.logRefusals = f.getLsbD 1 := by
  rw [← actionOfCode_eq_some, ← laneOfCode_eq_some]
  simp only [decodeRule]
  cases e with
  | mk enabled pattern action lane logRefusals =>
    split
    · grind
    · grind

/-- What a TRIGGER write decodes to (R117, R180). -/
theorem decodeTrigger_eq_some {f md g b0 b1 b2 b3 l0 l1 l2 l3 v m k : Byte} {t : Trigger} :
    decodeTrigger [f, md, g, b0, b1, b2, b3, l0, l1, l2, l3, v, m, k] = some t ↔
      md = t.mode.code ∧ g.toNat = t.gen.val ∧
        (patternOf [b0, b1, b2, b3] [l0, l1, l2, l3] v m k).legal = true ∧
        t.pattern = patternOf [b0, b1, b2, b3] [l0, l1, l2, l3] v m k ∧ t.enabled = f.getLsbD 0 ∧
        t.armed = f.getLsbD 0 := by
  rw [← triggerModeOfCode_eq_some, ← genOfCode_eq_some]
  simp only [decodeTrigger]
  cases t with
  | mk enabled mode gen pattern armed =>
    split
    · grind
    · grind

/-- What a LANE_STAGED write decodes to (R66). -/
theorem decodeLane_eq_some {k b0 b1 b2 w0 w1 w2 q p g f : Byte} {c : LaneConfig} :
    decodeLane [k, b0, b1, b2, w0, w1, w2, q, p, g, f] = some c ↔
      k = c.kind.code ∧ p = c.policy.code ∧ g.toNat = c.gen.val ∧ c.legal = true ∧ c.budget = beNat [b0, b1, b2] ∧
        c.watermark = zeroIsNone (beNat [w0, w1, w2]) ∧ c.concurrency = zeroIsNone q.toNat ∧
        c.summary = f.getLsbD 0 := by
  rw [← laneKindOfCode_eq_some, ← policyOfCode_eq_some, ← genOfCode_eq_some]
  simp only [decodeLane]
  cases c with
  | mk kind budget watermark concurrency policy gen summary =>
    split
    · grind
    · grind

/-- What a LIMITS write decodes to (R174). -/
theorem decodeLimits_eq_some {h0 h1 ea rf r0 r1 q0 q1 fa lp lt lr oa : Byte} {x : Limits} :
    decodeLimits [h0, h1, ea, rf, r0, r1, q0, q1, fa, lp, lt, lr, oa] = some x ↔
      ea = x.expiryAction.code ∧ responseLimitOf rf [r0, r1] = some x.responseLimit ∧ fa = x.fullAction.code ∧
        lp = x.logPolicy.code ∧ lr = switchCode x.logRefusals ∧ x.legal = true ∧ x.holdLimit = beNat [h0, h1] ∧
        x.quiesceLimit = beNat [q0, q1] ∧ x.logThreshold = lt.toNat ∧ x.orphanAlarm = oa.toNat := by
  rw [← expiryActionOfCode_eq_some, ← fullActionOfCode_eq_some, ← logPolicyOfCode_eq_some, ← switchOfCode_eq_some]
  simp only [decodeLimits]
  cases x with
  | mk =>
    split
    · grind
    · grind

/-! ## The statement -/

/-- A decoding that is not one of anything is none. -/
theorem eq_none_of_forall {α : Type} {o : Option α} (h : ∀ x, o ≠ some x) : o = none :=
  Option.eq_none_iff_forall_ne_some.mpr h

/-- Settles O53: what each payload decodes to, with its limits. -/
theorem writtenPayloadsDecodeByLayout : Obligations.WrittenPayloadsDecodeByLayout := by
  unfold Obligations.WrittenPayloadsDecodeByLayout
  intro num2 num3 num4 window
  have hwindow : ∀ b0 b1 b2 b3 l0 l1 l2 l3 v m k : Byte,
      (patternOf [b0, b1, b2, b3] [l0, l1, l2, l3] v m k).legal = true ↔
        window (num4 b0 b1 b2 b3) (num4 l0 l1 l2 l3) k := by
    intro b0 b1 b2 b3 l0 l1 l2 l3 v m k
    rw [patternOf_legal_iff, beNat_four, beNat_four]
  refine ⟨?_, ?_, ?_, ?_, fun p0 p1 p2 => ?_⟩
  · intro f b0 b1 b2 b3 l0 l1 l2 l3 v m k a n good
    refine ⟨fun hbad => eq_none_of_forall fun e he => hbad ?_, fun hgood => ?_⟩
    · obtain ⟨ha, hn, hlegal, -⟩ := decodeRule_eq_some.mp he
      exact ⟨(hwindow _ _ _ _ _ _ _ _ v m k).mp hlegal, actionCode_iff.mpr ⟨_, ha⟩, hn ▸ e.lane.isLt⟩
    · obtain ⟨hlegal, ha, hn⟩ := hgood
      obtain ⟨act, haction⟩ := actionCode_iff.mp ha
      exact ⟨{ enabled := f.getLsbD 0, pattern := patternOf [b0, b1, b2, b3] [l0, l1, l2, l3] v m k, action := act,
               lane := ⟨n.toNat, hn⟩, logRefusals := f.getLsbD 1 }, decodeRule_eq_some.mpr ⟨haction, rfl,
        (hwindow _ _ _ _ _ _ _ _ v m k).mpr hlegal, rfl, rfl, rfl⟩, rfl, rfl, beNat_four _ _ _ _, beNat_four _ _ _ _,
        rfl, rfl, getLsbD_kindsOf k, haction.symm, rfl⟩
  · intro f md g b0 b1 b2 b3 l0 l1 l2 l3 v m k good
    refine ⟨fun hbad => eq_none_of_forall fun t ht => hbad ?_, fun hgood => ?_⟩
    · obtain ⟨hmd, hg, hlegal, -⟩ := decodeTrigger_eq_some.mp ht
      exact ⟨(hwindow _ _ _ _ _ _ _ _ v m k).mp hlegal, triggerModeCode_iff.mpr ⟨_, hmd⟩, hg ▸ t.gen.isLt⟩
    · obtain ⟨hlegal, hmd, hg⟩ := hgood
      obtain ⟨mode, hmode⟩ := triggerModeCode_iff.mp hmd
      exact ⟨{ enabled := f.getLsbD 0, mode := mode, gen := ⟨g.toNat, hg⟩,
               pattern := patternOf [b0, b1, b2, b3] [l0, l1, l2, l3] v m k, armed := f.getLsbD 0 },
        decodeTrigger_eq_some.mpr ⟨hmode, rfl, (hwindow _ _ _ _ _ _ _ _ v m k).mpr hlegal, rfl, rfl, rfl⟩, rfl, rfl,
        hmode.symm, rfl, beNat_four _ _ _ _, beNat_four _ _ _ _, rfl, rfl, getLsbD_kindsOf k⟩
  · intro k b0 b1 b2 w0 w1 w2 q p g f good
    have hlegal : ∀ c : LaneConfig, c.budget = beNat [b0, b1, b2] → c.watermark = zeroIsNone (beNat [w0, w1, w2]) →
        c.concurrency = zeroIsNone q.toNat → (c.legal = true ↔
          16 ≤ num3 b0 b1 b2 ∧ num3 w0 w1 w2 ≤ num3 b0 b1 b2 ∧ q.toNat ≤ 128) := by
      intro c hbudget hwater hconc
      rw [beNat_three] at hbudget hwater
      rw [laneConfig_legal_iff, hbudget, hwater, hconc, optionWithin_zeroIsNone, optionWithin_zeroIsNone]
      have hmax : num3 b0 b1 b2 ≤ 16777215 := by simp only [num3]; omega
      exact ⟨fun ⟨hb, _, hw, hq⟩ => ⟨hb, hw, hq⟩, fun ⟨hb, hw, hq⟩ => ⟨hb, hmax, hw, hq⟩⟩
    refine ⟨fun hbad => eq_none_of_forall fun c hc => hbad ?_, fun hgood => ?_⟩
    · obtain ⟨hk, hp, hg, hc, hbudget, hwater, hconc, -⟩ := decodeLane_eq_some.mp hc
      exact ⟨laneKindCode_iff.mpr ⟨_, hk⟩, policyCode_iff.mpr ⟨_, hp⟩, hg ▸ c.gen.isLt,
        (hlegal c hbudget hwater hconc).mp hc⟩
    · obtain ⟨hk, hp, hg, hnumbers⟩ := hgood
      obtain ⟨kind, hkind⟩ := laneKindCode_iff.mp hk
      obtain ⟨policy, hpolicy⟩ := policyCode_iff.mp hp
      exact ⟨{ kind := kind, budget := beNat [b0, b1, b2], watermark := zeroIsNone (beNat [w0, w1, w2]),
               concurrency := zeroIsNone q.toNat, policy := policy, gen := ⟨g.toNat, hg⟩, summary := f.getLsbD 0 },
        decodeLane_eq_some.mpr ⟨hkind, hpolicy, rfl, (hlegal _ rfl rfl rfl).mpr hnumbers, rfl, rfl, rfl, rfl⟩,
        hkind.symm, beNat_three _ _ _, congrArg zeroIsNone (beNat_three _ _ _), rfl, hpolicy.symm, rfl, rfl⟩
  · intro h0 h1 ea rf r0 r1 q0 q1 fa lp lt lr oa good
    have hlegal : ∀ x : Limits, x.holdLimit = beNat [h0, h1] → x.quiesceLimit = beNat [q0, q1] →
        x.logThreshold = lt.toNat → x.orphanAlarm = oa.toNat → (x.legal = true ↔
          1 ≤ num2 h0 h1 ∧ (∀ n, x.responseLimit = some n → 1 ≤ n ∧ n ≤ 65535) ∧ 1 ≤ num2 q0 q1 ∧ 1 ≤ lt.toNat ∧
            lt.toNat ≤ 64 ∧ 1 ≤ oa.toNat ∧ oa.toNat ≤ 127) := by
      intro x hhold hquiesce hthreshold halarm
      rw [beNat_two] at hhold hquiesce
      rw [limits_legal_iff, hhold, hquiesce, hthreshold, halarm]
      have hmax : num2 h0 h1 ≤ 65535 ∧ num2 q0 q1 ≤ 65535 := by simp only [num2]; omega
      exact ⟨fun ⟨hh, _, hr, hq, _, hrest⟩ => ⟨hh, hr, hq, hrest⟩,
        fun ⟨hh, hr, hq, hrest⟩ => ⟨hh, hmax.1, hr, hq, hmax.2, hrest⟩⟩
    refine ⟨fun hbad => eq_none_of_forall fun x hx => hbad ?_, fun hgood => ?_⟩
    · obtain ⟨hea, hrf, hfa, hlp, hlr, hx, hhold, hquiesce, hthreshold, halarm⟩ := decodeLimits_eq_some.mp hx
      obtain ⟨hh, hr, hq, hnumbers⟩ := (hlegal x hhold hquiesce hthreshold halarm).mp hx
      exact ⟨hh, expiryActionCode_iff.mpr ⟨_, hea⟩, (responseLimitOf_legal rf r0 r1).mp ⟨_, hrf, hr⟩, hq,
        fullActionCode_iff.mpr ⟨_, hfa⟩, logPolicyCode_iff.mpr ⟨_, hlp⟩, hnumbers.1, hnumbers.2.1,
        switchCode_iff.mpr ⟨_, hlr⟩, hnumbers.2.2⟩
    · obtain ⟨hh, hea, hrf, hq, hfa, hlp, hlt, hltop, hlr, halarm⟩ := hgood
      obtain ⟨expiry, hexpiry⟩ := expiryActionCode_iff.mp hea
      obtain ⟨response, hspelled, hr⟩ := (responseLimitOf_legal rf r0 r1).mpr hrf
      obtain ⟨full, hfull⟩ := fullActionCode_iff.mp hfa
      obtain ⟨policy, hpolicy⟩ := logPolicyCode_iff.mp hlp
      obtain ⟨refusals, hrefusals⟩ := switchCode_iff.mp hlr
      exact ⟨{ holdLimit := beNat [h0, h1], expiryAction := expiry, responseLimit := response,
               quiesceLimit := beNat [q0, q1], fullAction := full, logPolicy := policy, logThreshold := lt.toNat,
               logRefusals := refusals, orphanAlarm := oa.toNat },
        decodeLimits_eq_some.mpr ⟨hexpiry, hspelled, hfull, hpolicy, hrefusals,
          (hlegal _ rfl rfl rfl rfl).mpr ⟨hh, hr, hq, hlt, hltop, halarm⟩, rfl, rfl, rfl, rfl⟩,
        beNat_two _ _, hexpiry.symm, (responseLimitOf_eq hspelled).trans (by rw [beNat_two]), beNat_two _ _, hfull.symm,
        hpolicy.symm, rfl, by rw [hrefusals]; cases refusals <;> rfl, rfl⟩
  · rw [decodePeriod, beNat_three]
    rfl

end Sys2Proof.Machine
end

section
/-! What the reads return, and that what is read and written back decodes to the object (section 11.3). -/

namespace Sys2Proof.Machine

/-! ## Bytes -/

/-- So many bytes of a number, and each of them. -/
theorem length_beBytes (k n : Nat) : (beBytes k n).length = k := by
  induction k with
  | zero => rfl
  | succ k ih => exact congrArg (· + 1) ih

/-- The byte at an offset. -/
theorem getElem?_beBytes {k n i : Nat} (h : i < k) :
    (beBytes k n)[i]? = some (BitVec.ofNat 8 (n / 256 ^ (k - 1 - i))) := by
  induction k generalizing i with
  | zero => omega
  | succ k ih =>
    cases i with
    | zero => rfl
    | succ i =>
      rw [beBytes, List.getElem?_cons_succ, ih (by omega), show k + 1 - 1 - (i + 1) = k - 1 - i by omega]

/-- The bytes of a number spell it, as far as they reach. -/
theorem foldl_beBytes (k n acc : Nat) :
    (beBytes k n).foldl (fun m b => m * 256 + b.toNat) acc = acc * 256 ^ k + n % 256 ^ k := by
  induction k generalizing acc with
  | zero => simp [beBytes, Nat.mod_one]
  | succ k ih =>
    have hsplit : n % 256 ^ (k + 1) = n / 256 ^ k % 256 * 256 ^ k + n % 256 ^ k := by
      rw [Nat.pow_succ, Nat.mod_mul, Nat.add_comm, Nat.mul_comm]
    rw [beBytes, List.foldl_cons, ih, BitVec.toNat_ofNat, hsplit, Nat.pow_succ]
    ring

/-- A number that its bytes hold is what they spell. -/
theorem beNat_beBytes {k n : Nat} (h : n < 256 ^ k) : beNat (beBytes k n) = n := by
  rw [beNat, foldl_beBytes, Nat.zero_mul, Nat.zero_add, Nat.mod_eq_of_lt h]

/-- A small bit vector as a byte of its number. -/
theorem setWidth_eq_ofNat {n : Nat} (x : BitVec n) : x.setWidth 8 = BitVec.ofNat 8 x.toNat :=
  (BitVec.ofNat_toNat 8 x).symm

/-- A yes/no item's code is its number. -/
theorem switchCode_eq (b : Bool) : switchCode b = BitVec.ofNat 8 b.toNat := by
  cases b <;> rfl

/-- A flag byte of one item. -/
theorem flagByte_one (a : Bool) : flagByte [a] = BitVec.ofNat 8 a.toNat := by
  cases a <;> rfl

/-- A flag byte of two items. -/
theorem flagByte_two (a b : Bool) : flagByte [a, b] = BitVec.ofNat 8 (a.toNat + 2 * b.toNat) := by
  refine congrArg (BitVec.ofNat 8) ?_
  simp only [List.foldr_cons, List.foldr_nil]
  omega

/-- A flag byte of three items. -/
theorem flagByte_three (a b c : Bool) :
    flagByte [a, b, c] = BitVec.ofNat 8 (a.toNat + 2 * b.toNat + 4 * c.toNat) := by
  refine congrArg (BitVec.ofNat 8) ?_
  simp only [List.foldr_cons, List.foldr_nil]
  omega

/-- A flag byte of four items. -/
theorem flagByte_four (a b c d : Bool) :
    flagByte [a, b, c, d] = BitVec.ofNat 8 (a.toNat + 2 * b.toNat + 4 * c.toNat + 8 * d.toNat) := by
  refine congrArg (BitVec.ofNat 8) ?_
  simp only [List.foldr_cons, List.foldr_nil]
  omega

/-- A flag byte of five items. -/
theorem flagByte_five (a b c d e : Bool) : flagByte [a, b, c, d, e] =
    BitVec.ofNat 8 (a.toNat + 2 * b.toNat + 4 * c.toNat + 8 * d.toNat + 16 * e.toNat) := by
  refine congrArg (BitVec.ofNat 8) ?_
  simp only [List.foldr_cons, List.foldr_nil]
  omega

/-- A flag byte of six items. -/
theorem flagByte_six (a b c d e f : Bool) : flagByte [a, b, c, d, e, f] =
    BitVec.ofNat 8 (a.toNat + 2 * b.toNat + 4 * c.toNat + 8 * d.toNat + 16 * e.toNat + 32 * f.toNat) := by
  refine congrArg (BitVec.ofNat 8) ?_
  simp only [List.foldr_cons, List.foldr_nil]
  omega

/-- A trigger's flag byte: bit 0 and bit 7. -/
theorem flagByte_ends (a b : Bool) :
    flagByte [a, false, false, false, false, false, false, b] = BitVec.ofNat 8 (a.toNat + 128 * b.toNat) := by
  refine congrArg (BitVec.ofNat 8) ?_
  simp only [List.foldr_cons, List.foldr_nil, Bool.toNat_false]
  omega

/-! ## Counts of tags -/

/-- Every entry is FREE, LIVE or ORPHANED (R97). -/
theorem countP_states (l : List TagEntry) :
    l.countP TagEntry.isFree + l.countP TagEntry.isLive + l.countP TagEntry.isOrphaned = l.length := by
  induction l with
  | nil => rfl
  | cons e l ih =>
    simp only [List.countP_cons, List.length_cons]
    cases e <;> simp [TagEntry.isFree, TagEntry.isLive, TagEntry.isOrphaned] <;> omega

/-- The three counts of tags together (R97, R115). -/
theorem counts_of_tags (s : State) : freeCount s + liveTotal s + orphanCount s = 128 :=
  (countP_states s.tags.toList).trans (by simp)

/-! ## What is written back -/

/-- A legal pattern's bytes decode to it (R21, R117). -/
theorem patternOf_encoded {x : Pattern} (h : x.legal = true) :
    patternOf (beBytes 4 x.base) (beBytes 4 x.limit) x.value x.mask (x.kinds.setWidth 8) = x := by
  have hpages : x.base ≤ x.limit ∧ x.limit ≤ 268435455 := by
    rw [Pattern.legal, Bool.and_eq_true, Bool.and_eq_true, decide_eq_true_iff, decide_eq_true_iff] at h
    exact h.1
  have hkinds : kindsOf (x.kinds.setWidth 8) = x.kinds := by
    rw [kindsOf, BitVec.setWidth_setWidth_of_le _ (by decide), BitVec.setWidth_eq]
  rw [patternOf, beNat_beBytes (by omega), beNat_beBytes (by omega), hkinds]

/-- What a read of RULE returns decodes to the entry (R23). -/
theorem decodeRule_encodeRule {e : RuleEntry} (h : e.pattern.legal = true) : decodeRule (encodeRule e) = some e := by
  have hpattern := patternOf_encoded h
  have hlane : (byteOf e.lane).toNat = e.lane.val := by
    rw [byteOf, BitVec.toNat_ofNat]
    omega
  have hbits : e.enabled = (flagByte [e.enabled, e.logRefusals]).getLsbD 0 ∧
      e.logRefusals = (flagByte [e.enabled, e.logRefusals]).getLsbD 1 := by
    cases e.enabled <;> cases e.logRefusals <;> decide
  exact decodeRule_eq_some.mpr ⟨rfl, hlane, (congrArg Pattern.legal hpattern).trans h, hpattern.symm, hbits.1, hbits.2⟩

/-- What a read of TRIGGER returns decodes to the trigger, armed by its enabled bit (R117, R180). -/
theorem decodeTrigger_encodeTrigger {t : Trigger} (h : t.pattern.legal = true) :
    decodeTrigger (encodeTrigger t) = some { t with armed := t.enabled } := by
  have hpattern := patternOf_encoded h
  have hgen : (byteOf t.gen).toNat = t.gen.val := by
    rw [byteOf, BitVec.toNat_ofNat]
    omega
  have hbit : t.enabled =
      (flagByte [t.enabled, false, false, false, false, false, false, t.armed]).getLsbD 0 := by
    cases t.enabled <;> cases t.armed <;> decide
  exact decodeTrigger_eq_some.mpr ⟨rfl, hgen, (congrArg Pattern.legal hpattern).trans h, hpattern.symm, hbit, hbit⟩

/-- A limit that is absent or a number from 1 up reads back from its number. -/
theorem zeroIsNone_getD {top : Nat} {o : Option Nat} (h : optionWithin top o = true) : zeroIsNone (o.getD 0) = o := by
  cases o with
  | none => rfl
  | some n =>
    have hn := ((optionWithin_iff top (some n)).mp h n rfl).1
    exact if_neg (Nat.ne_of_gt hn)

/-- A limit's number is no higher than its top. -/
theorem getD_le_of_optionWithin {top : Nat} {o : Option Nat} (h : optionWithin top o = true) : o.getD 0 ≤ top := by
  cases o with
  | none => exact Nat.zero_le top
  | some n => exact ((optionWithin_iff top (some n)).mp h n rfl).2

/-- What a read of LANE_STAGED returns decodes to the record (R66). -/
theorem decodeLane_encodeLane {c : LaneConfig} (h : c.legal = true) : decodeLane (encodeLane c) = some c := by
  obtain ⟨-, hbudget, hwater, hconc⟩ := (laneConfig_legal_iff c).mp h
  have hw := getD_le_of_optionWithin hwater
  have hq := getD_le_of_optionWithin hconc
  have hgen : (byteOf c.gen).toNat = c.gen.val := by
    rw [byteOf, BitVec.toNat_ofNat]
    omega
  have hlimit : (byteOf (c.concurrency.getD 0)).toNat = c.concurrency.getD 0 := by
    rw [byteOf, BitVec.toNat_ofNat]
    omega
  have hnumber : beNat (beBytes 3 c.budget) = c.budget := beNat_beBytes (by omega)
  have hwatermark : zeroIsNone (beNat (beBytes 3 (c.watermark.getD 0))) = c.watermark := by
    rw [beNat_beBytes (by omega), zeroIsNone_getD hwater]
  have hconcurrency : zeroIsNone (byteOf (c.concurrency.getD 0)).toNat = c.concurrency := by
    rw [hlimit, zeroIsNone_getD hconc]
  have hbit : c.summary = (flagByte [c.summary]).getLsbD 0 := by
    cases c.summary <;> decide
  exact decodeLane_eq_some.mpr
    ⟨rfl, rfl, hgen, h, hnumber.symm, hwatermark.symm, hconcurrency.symm, hbit⟩

/-- What a read of LIMITS returns decodes to the settings (R175). -/
theorem decodeLimits_encodeLimits {x : Limits} (h : x.legal = true) : decodeLimits (encodeLimits x) = some x := by
  obtain ⟨-, hhold, hresponse, -, hquiesce, -, hthreshold, -, halarm⟩ := (limits_legal_iff x).mp h
  have hspelled : responseLimitOf (formCode x.responseLimit) (beBytes 2 (x.responseLimit.getD 0)) =
      some x.responseLimit := by
    refine responseLimitOf_eq_some.mpr ⟨rfl, fun n hn => ?_⟩
    have hlt := (hresponse n hn).2
    rw [hn, Option.getD_some, beNat_beBytes (by omega)]
  have hlt : (byteOf x.logThreshold).toNat = x.logThreshold := by
    rw [byteOf, BitVec.toNat_ofNat]
    omega
  have hoa : (byteOf x.orphanAlarm).toNat = x.orphanAlarm := by
    rw [byteOf, BitVec.toNat_ofNat]
    omega
  have hh : beNat (beBytes 2 x.holdLimit) = x.holdLimit := beNat_beBytes (by omega)
  have hq : beNat (beBytes 2 x.quiesceLimit) = x.quiesceLimit := beNat_beBytes (by omega)
  exact decodeLimits_eq_some.mpr ⟨rfl, hspelled, rfl, rfl, rfl, h, hh.symm, hq.symm, hlt.symm, hoa.symm⟩

/-- What a read of PERIOD returns at offset 3 decodes to the staged period (R75). -/
theorem decodePeriod_encodePeriod {g : Generator} (h : g.Sound) :
    decodePeriod (((encodePeriod g).drop 3).take 3) = some g.stagedPeriod := by
  obtain ⟨-, -, hone, htop, -⟩ := h
  have hbytes : ((encodePeriod g).drop 3).take 3 = beBytes 3 g.stagedPeriod := rfl
  have hle : g.stagedPeriod ≤ 1000000 := htop
  rw [hbytes, decodePeriod, beNat_beBytes (by omega), if_pos ⟨hone, htop⟩]

/-- What a read of MASKS returns decodes to the masks (R136). -/
theorem decodeMasks_encodeMasks (e : Events) :
    decodeMasks (encodeMasks e) = some (e.flags.toList.map EventFlag.enabled) := by
  rw [← decodeMasks_codes, List.map_map]
  rfl

end Sys2Proof.Machine
end

section
/-! What each read returns (section 11.3). -/

namespace Sys2Proof.Machine

/-- An index in range reads its own entry. -/
theorem readContents_index (s : State) :
    (∀ n : RuleId, readContents .rule n.val s = encodeRule s.rules[n]) ∧
      (∀ n : TriggerId, readContents .trigger n.val s = encodeTrigger s.triggers[n]) ∧
      (∀ g : Gen, readContents .period g.val s = encodePeriod s.gens[g]) ∧
      (∀ l : LaneId, readContents .laneStaged l.val s = encodeLane s.lanes[l].staged) ∧
      (∀ l : LaneId, readContents .laneLive l.val s = encodeLaneLive s.lanes[l]) ∧
      ∀ t : DownTag, readContents .tags t.val s = encodeTags s.tags[t] s :=
  ⟨fun n => congrArg (fun k : RuleId => encodeRule s.rules[k]) (ofNat_index rfl),
    fun n => congrArg (fun k : TriggerId => encodeTrigger s.triggers[k]) (ofNat_index rfl),
    fun g => congrArg (fun k : Gen => encodePeriod s.gens[k]) (ofNat_index rfl),
    fun l => congrArg (fun k : LaneId => encodeLane s.lanes[k].staged) (ofNat_index rfl),
    fun l => congrArg (fun k : LaneId => encodeLaneLive s.lanes[k]) (ofNat_index rfl),
    fun t => congrArg (fun k : DownTag => encodeTags s.tags[k] s) (ofNat_index rfl)⟩

/-- A RULE payload, field by field. -/
theorem encodeRule_layout (e : RuleEntry) : encodeRule e =
    [BitVec.ofNat 8 (e.enabled.toNat + 2 * e.logRefusals.toNat)] ++ (beBytes 4 e.pattern.base ++
      beBytes 4 e.pattern.limit ++ [e.pattern.value, e.pattern.mask, BitVec.ofNat 8 e.pattern.kinds.toNat]) ++
      [e.action.code, BitVec.ofNat 8 e.lane.val] := by
  rw [encodeRule, flagByte_two, setWidth_eq_ofNat]
  rfl

/-- Settles O54: each class's bytes are its layout, and what is written back decodes. -/
theorem readsWriteBack : Obligations.ReadsWriteBack := by
  unfold Obligations.ReadsWriteBack
  intro byte laneOf ruleOf modeOf kindOf record window faultKind last
  have hlane : ∀ o, laneByte o = laneOf o := fun o => by cases o <;> rfl
  have hrule : ∀ o, ruleByte o = ruleOf o := fun o => by cases o <;> rfl
  have hmode : ∀ m : Mode, m.code = modeOf m := fun m => by cases m <;> rfl
  have hkind : ∀ k : Kind, kindByte k.code = kindOf k := fun k => by cases k <;> rfl
  have hfault : ∀ k, faultCode k = faultKind k := fun k => by cases k <;> rfl
  have hlast : ∀ c, lastIndex c = last c := fun c => by cases c <;> rfl
  have hrecord : ∀ c, encodeLane c = record c := by
    intro c
    rw [encodeLane, flagByte_one]
    cases hk : c.kind <;> cases hp : c.policy <;> simp only [record, hk, hp] <;> rfl
  refine ⟨fun f => by cases f <;> rfl, fun k => by cases k <;> rfl, fun k n i => ⟨length_beBytes k n, getElem?_beBytes⟩,
    fun c f s h hv hp hlog hc hi => ?_, fun s => ?_, fun e => decodeRule_encodeRule, fun c => decodeLane_encodeLane,
    fun t h => ⟨decodeTrigger_encodeTrigger h, congrArg some (flagByte_ends _ _)⟩, fun x => decodeLimits_encodeLimits,
    fun g => decodePeriod_encodePeriod, decodeMasks_encodeMasks⟩
  · have hstate : afterRead c f.index.toNat s = s := if_neg hlog
    rw [takeFrame_served h hv (classServes_read hc) ((indexServes_iff hlog).mpr (hlast c ▸ hi)) (by rw [hp]; rfl)]
    exact congrArg (State.answered f .ok (readContents c f.index.toNat s)) hstate
  · obtain ⟨hrules, htriggers, hgens, hstaged, hlive, htags⟩ := readContents_index s
    refine ⟨?_, ?_, rfl, ?_, fun n => ⟨hrules n, ?_⟩, fun n => ⟨htriggers n, ?_⟩, rfl, ?_, fun i => ?_, rfl,
      fun g => ⟨hgens g, ?_⟩, fun l => ⟨hstaged l, ?_, ?_⟩, ?_, fun h => ?_, fun x h => ?_, fun n h => ?_,
      fun n e h => ?_, counts_of_tags s, fun t => ?_⟩
    · show encodeIdentity s = _
      rw [encodeIdentity]
      cases s.resetCause <;> rfl
    · show [s.mode.code, s.resume.code] = _
      rw [hmode s.resume]
      cases s.mode with
      | operating m => exact congrArg (fun b => [b, modeOf s.resume]) (hmode m)
      | quiescing | quiesced | restarting => rfl
    · show encodeLimits s.limits = _
      rw [encodeLimits, switchCode_eq]
      cases s.limits.expiryAction <;> cases s.limits.responseLimit <;> cases s.limits.fullAction <;>
        cases s.limits.logPolicy <;> rfl
    · rw [hrules, encodeRule_layout]
      cases s.rules[n].action <;> rfl
    · rw [htriggers, encodeTrigger, flagByte_ends, setWidth_eq_ofNat]
      cases s.triggers[n].mode <;> rfl
    · show (s.events.flags.toList.map fun x => switchCode x.enabled).length = 13
      simp
    · show (s.events.flags.toList.map fun x => switchCode x.enabled)[i.val]? = _
      simp [switchCode_eq, byte]
    · rw [hgens, encodePeriod, flagByte_one]
    · rw [hstaged, hrecord]
    · rw [hlive, encodeLaneLive, hrecord, flagByte_two]
      rfl
    · refine ⟨flagSet fun i => s.events.flags[i].set, getLsbD_flagSet _, fun i hi => getLsbD_flagSet_ge _ hi, ?_⟩
      show encodeEvents s.events = _
      rw [encodeEvents, toNat_flagSet, setWidth_eq_ofNat]
    · show encodeFaults s.faults = _
      rw [encodeFaults, h]
      rfl
    · show encodeFaults s.faults = _
      simp only [encodeFaults, h, encodeFaultRecord, hfault, flagByte_six, hlane, kindByte, setWidth_eq_ofNat]
      rfl
    · show [byteOf s.hold.length] ++ beBytes 2 (usedBeats s) ++ encodeHeld s.hold[n]? = _
      rw [List.getElem?_eq_none h]
      rfl
    · show [byteOf s.hold.length] ++ beBytes 2 (usedBeats s) ++ encodeHeld s.hold[n]? = _
      rw [h]
      simp only [encodeHeld, flagByte_five, hkind, hlane, hrule]
      cases e.cause <;> rcases e.refusal with _ | _ | _ | _ <;> rfl
    · rw [htags]
      have hfields : ∀ f : Flight, encodeFlight f =
          [byte (f.lane.isSome.toNat + 2 * f.rule.isSome.toNat + 4 * f.remaining.isSome.toNat +
            8 * f.timeoutPending.toNat), f.tag, f.requester, kindOf f.kind] ++ beBytes 5 f.address.toNat ++
          [byte f.length, laneOf f.lane, ruleOf f.rule] ++ beBytes 4 f.forwardedAt.toNat ++
          beBytes 2 (f.remaining.getD 0) := by
        intro f
        rw [encodeFlight, flagByte_four, hkind, hlane, hrule]
        rfl
      cases ht : s.tags[t] with
      | free => rfl
      | live f => exact congrArg (fun bs => _ ++ (1 :: bs)) (hfields f)
      | orphaned f => exact congrArg (fun bs => _ ++ (2 :: bs)) (hfields f)

end Sys2Proof.Machine
end

section
/-! What a LOG read returns and removes (R123, R131, R181, R182, section 11.5). -/

namespace Sys2Proof.Machine

/-- A disposition takes two bytes. -/
theorem length_encodeShown (x : Shown) : (encodeShown x).length = 2 := by
  cases x <;> rfl

/-- Request fields take thirteen bytes. -/
theorem length_encodeHead (source : Byte) (r : RecordRequest) (lane : Option LaneId) (rule : Option RuleId) :
    (encodeHead source r lane rule).length = 13 := rfl

/-- A record's source part takes twenty bytes at most. -/
theorem length_encodeBody_le (b : RecordBody) : (encodeBody b).length ≤ 20 := by
  cases b <;> simp [encodeBody, length_encodeHead, length_encodeShown, length_beBytes, signedBytes]

/-- A record takes 26 bytes. -/
theorem length_encodeRecord (r : CaptureRecord) : (encodeRecord r).length = 26 := by
  have hbody := length_encodeBody_le r.body
  simp only [encodeRecord, padTo, List.length_append, List.length_replicate, length_beBytes]
  omega

/-- A record slot takes 26 bytes. -/
theorem length_encodeSlot (o : Option CaptureRecord) : (encodeSlot o).length = 26 := by
  cases o with
  | none => rfl
  | some r => exact length_encodeRecord r

/-- A record is its stamp, its source's bytes and the fill (R123, R179). -/
theorem encodeRecord_eq {seq : BitVec 16} {now : Time} {b : RecordBody} {n : Nat} (h : (encodeBody b).length + n = 20) :
    encodeRecord { seq := seq, timestamp := now, body := b } =
      beBytes 2 seq.toNat ++ beBytes 4 now.toNat ++ encodeBody b ++ List.replicate n 0 := by
  have hfill : 26 - (beBytes 2 seq.toNat ++ beBytes 4 now.toNat ++ encodeBody b).length = n := by
    simp only [List.length_append, length_beBytes]
    omega
  rw [encodeRecord, padTo, hfill]

/-- Settles O56: the slots' bytes, and each source's. -/
theorem logReadRemovesOldest : Obligations.LogReadRemovesOldest := by
  unfold Obligations.LogReadRemovesOldest
  refine ⟨?_, ?_⟩
  · intro f s n h hv hn hi hp out slot reply
    have hslot : ∀ o, encodeSlot o = slot o := fun o => by cases o <;> rfl
    have hreply : readContents .log f.index.toNat s = reply := by
      rw [hi]
      show encodeLog n s.log = reply
      rw [encodeLog, hslot, hslot]
      rfl
    have hserves : indexServes .log f.index.toNat = true := by
      rw [hi]
      rcases hn with rfl | rfl <;> rfl
    have hstate : afterRead .log f.index.toNat s =
        { s with log := { s.log with records := s.log.records.drop n } } := by
      rw [hi]
      rfl
    refine ⟨?_, exec_taken h.1 rfl rfl ?_⟩
    · rw [← hreply]
      show (encodeLog _ s.log).length = 56
      simp only [encodeLog, List.length_append, List.length_cons, List.length_nil, length_beBytes, length_encodeSlot]
    · rw [takeFrame_served h hv rfl hserves (by rw [hp]; rfl), ← hreply, ← hstate]
      rfl
  · intro seq now r lane rule bytes laneOf causeOf statusOf shownAs stamp head fill
    have hlane : ∀ o, laneByte o = laneOf o := fun o => by cases o <;> rfl
    have hcause : ∀ c : Cause, c.code = causeOf c := fun c => by cases c <;> rfl
    have hstatus : ∀ st : Status, st.code = statusOf st := fun st => by cases st <;> rfl
    have hshown : ∀ x, encodeShown x = shownAs x := by
      rintro (_ | _ | _ | c | st)
      · rfl
      · rfl
      · rfl
      · exact congrArg (fun b => [3, b]) (hcause c)
      · exact congrArg (fun b => [4, b]) (hstatus st)
    have hhead : ∀ (source : Byte) (lane : Option LaneId),
        stamp ++ encodeHead source r lane rule = head source lane := by
      intro source lane
      rw [encodeHead, flagByte_three, hlane]
      cases rule <;> rfl
    have hrecord : ∀ {b : RecordBody} {source : Byte} {lane : Option LaneId} {rest : List Byte} (n : Nat),
        encodeBody b = encodeHead source r lane rule ++ rest → 13 + rest.length + n = 20 →
        bytes b = head source lane ++ rest ++ fill n := by
      intro b source lane rest n hbody hlen
      have hlength : (encodeBody b).length + n = 20 := by
        rw [hbody, List.length_append, length_encodeHead, hlen]
      refine (encodeRecord_eq hlength).trans ?_
      rw [hbody, ← hhead, List.append_assoc, List.append_assoc, List.append_assoc]
      simp only [stamp, List.append_assoc]
      rfl
    refine ⟨fun set x => ?_, fun st => ⟨?_, ?_⟩, fun x => ?_, fun c wait => ⟨?_, ?_⟩, fun t => ⟨?_, ?_⟩,
      fun l g consumed overrun balance => ?_⟩
    · refine (hrecord (rest := [set] ++ encodeShown x) 4 (List.append_assoc _ _ _) ?_).trans ?_
      · rw [List.length_append, length_encodeShown]
        rfl
      · rw [hshown, ← List.append_assoc]
    · exact (hrecord 5 rfl rfl).trans (by rw [hstatus]; rfl)
    · exact (hrecord 5 rfl rfl).trans (by rw [hstatus]; rfl)
    · refine (hrecord 5 rfl ?_).trans ?_
      · rw [length_encodeShown]
      · rw [hshown]
    · refine (hrecord (rest := [0x80, c.code] ++ beBytes 4 wait) 1 (List.append_assoc _ _ _) rfl).trans ?_
      rw [hcause, ← List.append_assoc]
    · refine (hrecord (rest := [6, c.code] ++ beBytes 4 wait) 1 (List.append_assoc _ _ _) rfl).trans ?_
      rw [hcause, ← List.append_assoc]
    · exact hrecord 6 rfl rfl
    · exact hrecord 6 rfl rfl
    · refine (encodeRecord_eq (n := 3) rfl).trans ?_
      simp only [encodeBody, signedBytes, stamp, List.append_assoc]
      rfl

end Sys2Proof.Machine
end

section
/-! A release scan's whole effect (R51, R81, R82, R84 to R87). -/

namespace Sys2Proof.Machine

/-! ## Before the grant -/

/-- Before its grant a scan has raised EXHAUSTED once for each lane tested short of credit whose flag was clear
(R51). -/
theorem scanned_events (s : State) : (scanned s).events =
    (((List.finRange 16).filter fun l : LaneId =>
      decide (l ∈ (scan s [] s.hold).shorts) && !s.lanes[l].exhausted).foldl
        (fun v l => raiseExhausted l v) s).events := by
  have hevents : (scanned s).events = (noteShorts (scan s [] s.hold).shorts
      { s with hold := (scan s [] s.hold).entries, scanDue := false }).events := by
    unfold scanned
    dsimp only
    split <;> rfl
  rw [hevents, noteShorts_events]
  exact foldl_raiseExhausted_events _ _ _ rfl

/-- A scan keeps the number of entries held. -/
theorem length_scan_entries (s : State) : (scan s [] s.hold).entries.length = s.hold.length := by
  rw [scan_length, List.length_nil, Nat.zero_add]

/-- A refusal decided brings on the next scan, and an evaluation (R6, R82). -/
theorem scanned_due (s : State) :
    (scanned s).scanDue = decide ((scan s [] s.hold).entries ≠ s.hold) ∧
      (scanned s).evalDue = (s.evalDue || (decide ((scan s [] s.hold).entries ≠ s.hold) && s.offered.isSome)) := by
  unfold scanned
  dsimp only
  by_cases h : (scan s [] s.hold).entries = s.hold
  · rw [if_pos h]
    simp [h]
  · have hne : (scan s [] s.hold).entries ≠ [] := by
      intro hnil
      have hlen := length_scan_entries s
      rw [hnil] at hlen h
      exact h (List.length_eq_zero_iff.mp hlen.symm).symm
    rw [if_neg h]
    simp [h, hne]

/-- The queue without the entry released is not empty when a refusal has changed another entry. -/
theorem eraseIdx_ne_nil_of_refusal {s : State} {n : Nat} {e : HoldEntry} (hhold : s.hold[n]? = some e)
    (hentries : (scan s [] s.hold).entries[n]? = some e) (h : (scan s [] s.hold).entries ≠ s.hold) :
    (scan s [] s.hold).entries.eraseIdx n ≠ [] := by
  intro hnil
  have hlen := length_scan_entries s
  obtain ⟨hn, -⟩ := List.getElem?_eq_some_iff.mp hentries
  have herased := congrArg List.length hnil
  rw [List.length_eraseIdx_of_lt hn, List.length_nil] at herased
  have hone : (scan s [] s.hold).entries.length = 1 := by omega
  obtain ⟨x, hx⟩ := List.length_eq_one_iff.mp hone
  obtain ⟨y, hy⟩ := List.length_eq_one_iff.mp (hlen.symm.trans hone)
  obtain rfl : n = 0 := by omega
  rw [hx] at hentries h
  rw [hy] at hhold h
  exact h (congrArg (fun z => [z]) (Option.some.inj (hentries.trans hhold.symm)))

/-! ## The grant -/

/-- Without the channel, a tag or an eligible entry nothing is granted (R81, R85, R86). -/
theorem grantHeld_none {first : Option Nat} {s : State}
    (h : s.downRequest ≠ none ∨ lowestFree s = none ∨ first = none) : grantHeld first s = s := by
  rcases grantHeld_cases first s with hsame | ⟨t, n, e, hfree, htag, hfirst, -, -⟩
  · exact hsame
  · rcases h with h | h | h
    · exact absurd hfree h
    · rw [h] at htag
      cases htag
    · rw [h] at hfirst
      cases hfirst

/-- With them the oldest eligible entry is released (R81, R85 to R87). -/
theorem grantHeld_released {s : State} {t : DownTag} {n : Nat} {e : HoldEntry} (hfree : s.downRequest = none)
    (htag : lowestFree s = some t) (he : s.hold[n]? = some e) : grantHeld (some n) s = released n e t s := by
  simp only [grantHeld, hfree, htag, release, he]
  rfl

/-- Settles O34: the effects before the grant are those of `scanned`, and the grant is `grant_noted`. -/
theorem releaseScanGrantsOldestEligible : Obligations.ReleaseScanGrantsOldestEligible := by
  unfold Obligations.ReleaseScanGrantsOldestEligible
  intro s hrun hdue r fresh raised noted mode
  have hmode : modeInForce (scanned s) = mode := by
    rw [modeInForce_eq]
    simp only [scanned_fields]
    rfl
  have hevents : (scanned s).events = raised.events := scanned_events s
  have hfree : lowestFree (scanned s) = lowestFree s := lowestFree_congr (by simp)
  have hnoted : ∀ l : LaneId, (scanned s).lanes[l] = noted l := by
    intro l
    rw [scanned_lane, exhausted_eq decide_eq_true_iff]
  obtain ⟨hscan, heval⟩ := scanned_due s
  refine ⟨releaseScan s, (exec_running hrun rfl).trans (congrArg _ (if_pos hdue)), fun hnone => ?_,
    fun t n e hchannel htag hfirst he => ?_⟩
  · have hsame : releaseScan s = scanned s := by
      rw [releaseScan_eq]
      exact grantHeld_none (by simpa [hfree] using hnone)
    rw [hsame]
    exact ⟨by simp [r], hnoted, hevents, hscan, heval, State.ext_fields (by simp)⟩
  · intro unpaid reached
    obtain ⟨e', he', hentries, -⟩ := scan_first_entry hfirst
    obtain rfl : e' = e := Option.some.inj (he'.symm.trans he)
    have hreleased : releaseScan s = released n e' t (scanned s) := by
      rw [releaseScan_eq, hfirst]
      exact grantHeld_released (by simpa using hchannel) (hfree.trans htag) (by simpa using hentries)
    rw [hreleased]
    have hgrant : ∀ l, e'.req.lane = some l → _ := fun l hl =>
      grant_noted (x := s.lanes[l]) (noted := decide (l ∈ r.shorts)) t hl (scanned_lane s l)
    simp only [hmode, decide_eq_true_iff, decide_eq_false_iff_not] at hgrant
    refine ⟨by simp [released, r], (grant_writes _ _ (scanned s)).1,
      (grant_writes _ _ (scanned s)).2.trans ?_, fun l hl => ?_,
      fun l hl => ⟨(hgrant l hl).1, (hgrant l hl).2.trans ?_⟩, fun hl => ?_, ?_, ?_,
      State.ext_fields (by simp [released])⟩
    · simp only [scanned_fields, flightOf]
    · rw [released_lane, if_neg hl, hnoted]
    · simp only [apply_ite State.events, raiseWatermark_events, raiseExhausted_events, hevents]
      rfl
    · refine (grant_events _ t _).trans ?_
      rw [chargeFor_events, hl]
      exact hevents
    · have hdue' : (released n e' t (scanned s)).scanDue =
          (decide (r.entries ≠ s.hold) || !(r.entries.eraseIdx n).isEmpty) := by
        simp [released, hscan, r]
      have hhold : (released n e' t (scanned s)).hold = r.entries.eraseIdx n := by simp [released, r]
      rw [hdue', hhold]
      by_cases h : r.entries = s.hold
      · simp [h]
      · have hne := eraseIdx_ne_nil_of_refusal he' hentries h
        simp [h, hne, r]
    · have heval' : (released n e' t (scanned s)).evalDue = ((scanned s).evalDue || s.offered.isSome) := by
        simp [released]
      rw [heval', heval]
      cases s.evalDue <;> cases s.offered.isSome <;> simp

end Sys2Proof.Machine
end

section
/-! An expiry's whole effect (R53, R56, R62 to R64, R70, R71). -/

namespace Sys2Proof.Machine

/-- The PERIOD_SUMMARY of a lane at an expiry of `g`, when the lane is bound to it and asks for one (R56). -/
def summaryOf (g : Gen) (s : State) (l : LaneId) : Option RecordBody :=
  if s.lanes[l].live.gen = g ∧ s.lanes[l].live.summary = true then some (summaryRecord l g s.lanes[l]) else none

/-- The summaries' records, one after another. -/
def logAll (bs : List RecordBody) (s : State) : State := bs.foldl (fun v b => logRecord b v) s

/-- Records depend on the same items of three states when they do of each two. -/
theorem SameView.trans {s t u : State} (h : SameView s t) (h' : SameView t u) : SameView s u :=
  ⟨h.triggers.trans h'.triggers, h.log.trans h'.log, h.events.trans h'.events, h.limits.trans h'.limits,
    h.timebase.trans h'.timebase⟩

/-- Records do not depend on lanes, nor on what has been brought on. -/
theorem sameView_updated (l : LaneId) (f : Lane → Lane) (s : State) : SameView (bringOn (updateLane l f s)) s :=
  ⟨rfl, rfl, rfl, rfl, rfl⟩

/-- One lane's replenishment writes its summary, and nothing else that records depend on (R56). -/
theorem sameView_replenish {s v : State} (h : SameView s v) (g : Gen) (commit : Bool) (l : LaneId)
    (hg : s.lanes[l].live.gen = g) :
    SameView (replenish g commit l s) (logAll (summaryOf g s l).toList v) := by
  have hlogged : SameView (if s.lanes[l].live.summary then logRecord (summaryRecord l g s.lanes[l]) s else s)
      (logAll (summaryOf g s l).toList v) := by
    unfold summaryOf
    by_cases hsummary : s.lanes[l].live.summary = true
    · rw [if_pos hsummary, if_pos ⟨hg, hsummary⟩]
      exact h.logRecord _
    · rw [if_neg hsummary, if_neg fun hboth => hsummary hboth.2]
      exact h
  exact (sameView_updated l (Lane.replenished commit) _).trans hlogged

/-- What the replenishments of an expiry do to the lanes of a list, one after another (R53, R63). -/
def replenishAll (g : Gen) (commit : Bool) (ls : List LaneId) (s : State) : State :=
  ls.foldl (fun s l => if s.lanes[l].live.gen = g then replenish g commit l s else s) s

/-- The first lane of the list, then the others. -/
theorem replenishAll_cons (g : Gen) (commit : Bool) (l : LaneId) (ls : List LaneId) (s : State) :
    replenishAll g commit (l :: ls) s =
      replenishAll g commit ls (if s.lanes[l].live.gen = g then replenish g commit l s else s) := rfl

/-- One lane's replenishment leaves the lanes still to come. -/
theorem replenish_rest {g : Gen} {commit : Bool} {l : LaneId} {ls : List LaneId} {s w : State} (hl : l ∉ ls)
    (hlanes : ∀ k ∈ l :: ls, s.lanes[k] = w.lanes[k]) {k : LaneId} (hk : k ∈ ls) :
    (if s.lanes[l].live.gen = g then replenish g commit l s else s).lanes[k] = w.lanes[k] := by
  have hne : k ≠ l := fun h => hl (h ▸ hk)
  split
  · rw [replenish_lane, if_neg hne, hlanes k (List.mem_cons_of_mem l hk)]
  · exact hlanes k (List.mem_cons_of_mem l hk)

/-- The replenishments write the summaries of the lanes as they were, in order (R56). -/
theorem sameView_replenishAll (g : Gen) (commit : Bool) (w : State) {ls : List LaneId} (hnodup : ls.Nodup) {s v : State}
    (h : SameView s v) (hlanes : ∀ k ∈ ls, s.lanes[k] = w.lanes[k]) :
    SameView (replenishAll g commit ls s) (logAll (ls.filterMap (summaryOf g w)) v) := by
  induction ls generalizing s v with
  | nil => exact h
  | cons l ls ih =>
    obtain ⟨hl, hnodup⟩ := List.nodup_cons.mp hnodup
    have hsame : summaryOf g s l = summaryOf g w l := by
      rw [summaryOf, summaryOf, hlanes l List.mem_cons_self]
    have hfirst : SameView (if s.lanes[l].live.gen = g then replenish g commit l s else s)
        (logAll (summaryOf g w l).toList v) := by
      rw [← hsame]
      by_cases hg : s.lanes[l].live.gen = g
      · rw [if_pos hg]
        exact sameView_replenish h g commit l hg
      · rw [if_neg hg, summaryOf, if_neg fun hboth => hg hboth.1]
        exact h
    have hrest := ih hnodup hfirst fun k hk => replenish_rest hl hlanes hk
    rw [replenishAll_cons]
    cases hsummary : summaryOf g w l with
    | none =>
      rw [List.filterMap_cons_none hsummary]
      rwa [hsummary] at hrest
    | some b =>
      rw [List.filterMap_cons_some hsummary]
      rwa [hsummary] at hrest

/-- One lane's replenishment brings on a scan and an evaluation (R6, R82). -/
theorem replenish_due (g : Gen) (commit : Bool) (l : LaneId) (s : State) :
    (replenish g commit l s).scanDue = (s.scanDue || !s.hold.isEmpty) ∧
      (replenish g commit l s).evalDue = (s.evalDue || s.offered.isSome) := by
  unfold replenish
  dsimp only
  split <;> simp

/-- What the replenishments bring on: a scan and an evaluation when some lane is bound (R6, R82). -/
theorem replenishAll_due (g : Gen) (commit : Bool) (w : State) {ls : List LaneId} (hnodup : ls.Nodup) {s : State}
    (hlanes : ∀ k ∈ ls, s.lanes[k] = w.lanes[k]) :
    (replenishAll g commit ls s).scanDue =
        (s.scanDue || (ls.any (fun l => decide (w.lanes[l].live.gen = g)) && !s.hold.isEmpty)) ∧
      (replenishAll g commit ls s).evalDue =
        (s.evalDue || (ls.any (fun l => decide (w.lanes[l].live.gen = g)) && s.offered.isSome)) := by
  induction ls generalizing s with
  | nil => simp [replenishAll]
  | cons l ls ih =>
    obtain ⟨hl, hnodup⟩ := List.nodup_cons.mp hnodup
    obtain ⟨hscan, heval⟩ := ih hnodup fun k hk => replenish_rest (commit := commit) (g := g) hl hlanes hk
    rw [replenishAll_cons, hscan, heval, List.any_cons, ← hlanes l List.mem_cons_self]
    by_cases hg : s.lanes[l].live.gen = g
    · obtain ⟨hs, he⟩ := replenish_due g commit l s
      simp only [if_pos hg, hs, he, replenish_fields, decide_eq_true hg]
      cases s.hold.isEmpty <;> cases s.offered.isSome <;> simp
    · rw [if_neg hg, decide_eq_false hg, Bool.false_or]
      exact ⟨rfl, rfl⟩

/-- The generator's own part of an expiry raises COMMIT_DONE, and nothing else that records depend on (R70). -/
theorem sameView_expireGen (g : Gen) (s : State) :
    SameView (expireGen g s) (if s.gens[g].commitPending then raiseCommitDone g s else s) := by
  unfold expireGen
  dsimp only
  split <;> exact ⟨rfl, rfl, rfl, rfl, rfl⟩

/-- A trigger armed by an expiry, as one condition (R64). -/
theorem armedBy_eq (g : Gen) (t : Trigger) : t.armedBy g =
    if t.enabled = true ∧ t.mode = .firstInPeriod ∧ t.gen = g then { t with armed := true } else t := by
  simp only [Trigger.armedBy, Bool.and_eq_true, beq_iff_eq, and_assoc]

/-- Settles O31: the lanes one after another, with their summaries and what they bring on. -/
theorem generatorExpires : Obligations.GeneratorExpires := by
  unfold Obligations.GeneratorExpires
  intro g s hrun hexpiring x period summaries logged
  have hlanes : ∀ k ∈ List.finRange 16, (expireGen g s).lanes[k] = s.lanes[k] := fun k _ => by simp
  have hnodup := List.nodup_finRange 16
  have hview : SameView (replenishAll g x.commitPending (List.finRange 16) (expireGen g s)) logged :=
    sameView_replenishAll g x.commitPending s hnodup (sameView_expireGen g s) hlanes
  have hexpire : expire g s = armTriggers g (replenishAll g x.commitPending (List.finRange 16) (expireGen g s)) := rfl
  obtain ⟨hscan, heval⟩ := replenishAll_due g x.commitPending s hnodup hlanes
  have hbound : ((List.finRange 16).any fun l => decide (s.lanes[l].live.gen = g)) = true ↔
      ∃ l : LaneId, s.lanes[l].live.gen = g := by
    simp only [List.any_eq_true, List.mem_finRange, true_and, decide_eq_true_eq]
  have hdue : (expire g s).scanDue = (s.scanDue || (((List.finRange 16).any fun l =>
      decide (s.lanes[l].live.gen = g)) && !s.hold.isEmpty)) ∧
      (expire g s).evalDue = (s.evalDue || (((List.finRange 16).any fun l =>
        decide (s.lanes[l].live.gen = g)) && s.offered.isSome)) := by
    rw [hexpire]
    simp only [armTriggers_fields, hscan, heval, expireGen_fields, and_self]
  have hexec : exec (.periodGeneratorExpiry g) s = .next (expire g s) := by
    have hdone : expireIfDue g s = expire g s := if_pos hexpiring
    rw [← hdone]
    exact exec_running hrun rfl
  refine ⟨expire g s, hexec, ?_, fun l => ?_, fun t => ?_, ?_, ?_, fun l hl => ?_, fun hnone => ?_, ?_⟩
  · rw [expire_gens]
    rfl
  · rw [expire_lane]
  · rw [← armedBy_eq]
    simp [expire, armTriggers]
  · rw [hexpire]
    simp only [armTriggers_fields, hview.log]
  · rw [hexpire]
    simp only [armTriggers_fields, hview.events]
  · rw [hdue.1, hdue.2, hbound.mpr ⟨l, hl⟩]
    exact ⟨rfl, rfl⟩
  · have hunbound : ((List.finRange 16).any fun l => decide (s.lanes[l].live.gen = g)) = false :=
      Bool.eq_false_iff.mpr fun h => by
        obtain ⟨l, hl⟩ := hbound.mp h
        exact hnone l hl
    rw [hdue.1, hdue.2, hunbound]
    simp
  · exact State.ext_fields (by simp [expire])

end Sys2Proof.Machine
end
